-- ==== Sys2Proof/Word.lean ====
section
/-! DEFINITION. The words of the FL416: bytes, 32-bit item values, and the indices of windows and tags. -/

namespace Sys2Proof

/-- One byte of data, of a frame or of a reply. -/
abbrev Byte := BitVec 8

/-- A 32-bit value: a byte address, an item value, a generation number or a frame number
(00_scope.md 4.1). -/
abbrev Word := BitVec 32

/-- A 16-bit item number (R182), also a set of 16 windows or causes (R189). -/
abbrev Half := BitVec 16

/-- A window index, 0 to 15 (00_scope.md 4.1). -/
abbrev Window := Fin 16

/-- A downstream tag, 0 to 7 (00_scope.md 4.2). -/
abbrev Tag := Fin 8

end Sys2Proof
end

