-- ==== Sys2Proof/Config.lean ====
section
/-! DEFINITION. The fixed sizes and power-on parameters of the part (00_scope.md section 6), and the free values: what
the rules leave unsaid of a request or of READ data that is not of the form of 00_scope.md 4.2 (assumption log 17).
A free value is a constant without a body, applied to the number of the draw (`State.drawn`): nothing constrains it. -/

namespace Sys2Proof.Config

/-- Staging slots (R1). -/
def slotCount : Nat := 512

/-- Requests the URQ holds (R44). -/
def urqDepth : Nat := 8

/-- Commit records the ring holds (R142). -/
def ringSize : Nat := 16

/-- Largest value of the arbiter's share counter (R79). -/
def shareMax : Nat := 15

/-- Ticks in one unit of STALL_LIMIT and DS_TIMEOUT (R51, R72). -/
def ticksPerUnit : Nat := 16

/-- Largest 32-bit count, at which saturating counts stop (R70, R103, R125). -/
def countMax : Nat := 4294967295

/-- One more than the largest address (R25, R34). -/
def addressLimit : Nat := 4294967296

/-- Bytes in a page (00_scope.md 4.1). -/
def pageBytes : Nat := 4096

/-- Value of the DEVICE_ID item (00_scope.md section 6). -/
def deviceId : Word := 0x46480416#32

/-- A free byte of data, by draw and place (assumption log 7). -/
opaque freeByte (draw place : Nat) : Byte

/-- A free lane of WRITE data, by draw and place (assumption log 6). -/
opaque freeLane (draw place : Nat) : Option Byte

/-- A free choice of a length, by draw (assumption log 6). -/
opaque freeChoice (draw : Nat) : Nat

end Sys2Proof.Config
end

