-- ==== Sys2Proof/Syntax.lean ====
section
/-! DEFINITION. The commands of the block: one constructor of `Instr` for each row of spec/opcode_table.json, with the
operands its rule names (assumption log 18), and the types of those operands. -/

namespace Sys2Proof

/-- The eight byte lanes of one word, lane i for the byte at word address + i (section 1.1): `some b` where the mask
bit is set, `none` where it is clear. A byte under a clear mask bit "has no meaning" and is not held
(assumption log 9). -/
abbrev Lanes := List (Option Byte)

/-- Length of a request: a sub-word access of 1, 2 or 4 bytes, or a run of 1 to 8 whole words (00_scope.md 4.2). -/
inductive Length where
  | sub (bytes : Nat)
  | words (count : Nat)
  deriving DecidableEq, Repr

/-- Kind of a request; a WRITE carries data and a byte mask for each word (00_scope.md 4.2). -/
inductive Payload where
  | read
  | write (words : List Lanes)
  deriving DecidableEq, Repr

/-- A request of the memory link, upstream or downstream (00_scope.md 4.2). -/
structure Request where
  addr : Word
  len : Length
  payload : Payload
  deriving DecidableEq, Repr

/-- A response of the memory link: OK with the data of a READ (no data for a WRITE), or ERROR (00_scope.md 4.2). -/
inductive Answer where
  | ok (data : List Byte)
  | error
  deriving DecidableEq, Repr

/-- Level of an input pin. -/
inductive Level where
  | low
  | high
  deriving DecidableEq, Repr

/-- The four items of a window descriptor (section 2.3). -/
inductive WindowField where
  | base
  | pages
  | policyView
  | enable
  deriving DecidableEq, Repr

/-- The three quantities of a timing set (section 5.6). -/
inductive TimingField where
  | period
  | sealPhase
  | deadline
  deriving DecidableEq, Repr

/-- The tracker parameters that are written only while TRACK_EN is 0 (R104). -/
inductive TrackerParam where
  | tolNarrow
  | tolWide
  | nAcq
  | nLock
  | holdoverLimit
  deriving DecidableEq, Repr

/-- Every item of the item map of section 10.9. -/
inductive Item where
  | deviceId
  | shadowWindow (w : Window) (f : WindowField)
  | activeWindow (w : Window) (f : WindowField)
  | faultSet
  | applyOutcome
  | windowCounts (w : Window)
  | shadowTiming (q : TimingField)
  | activeTiming (q : TimingField)
  | trackEn
  | trackerParam (p : TrackerParam)
  | gate
  | trackerState
  | goodAndLock
  | lastInterval
  | holdoverCount
  | frameNumber
  | phase
  | holdLimit
  | lateSeal
  | sealState
  | openGen
  | openCount
  | sealedGen
  | sealedRemaining
  | freeSlots
  | stallLimit
  | dsTimeout
  | retryLimit
  | drainShare
  | causeSet
  | enableSet
  | recordsUnread
  | recordsHeld
  deriving DecidableEq, Repr

/-- The commands of the block, one constructor for each row of the table.

A row of a management command (from `nop` on, and the write rows) is the event of R172 at which the CRC byte of that
command's frame arrives correct; its operands are the parameters of the frame. -/
inductive Instr where
  /-- REQUEST_ARRIVAL, R45. -/
  | requestArrival (r : Request)
  /-- TAKING, R46. -/
  | taking
  /-- RESPONSE_DEPARTURE, R47. -/
  | responseDeparture
  /-- STALL_TIMER_EXPIRY, R54. -/
  | stallTimerExpiry
  /-- GRANT, R78. -/
  | grant
  /-- DOWNSTREAM_RESPONSE, R74: the response's tag, and its status with the data of a READ. -/
  | downstreamResponse (tag : Tag) (answer : Answer)
  /-- DOWNSTREAM_TIMEOUT_EXPIRY, R75: of the member holding this tag. -/
  | downstreamTimeoutExpiry (tag : Tag)
  /-- STALE_TAG_RELEASE, R76. -/
  | staleTagRelease (tag : Tag)
  /-- DEADLINE_DUE, R69. -/
  | deadlineDue
  /-- SEAL_POINT, R125. -/
  | sealPoint
  /-- FRAME_BOUNDARY, R87: the boundaries that the timer makes itself. -/
  | frameBoundary
  /-- SYNC_EDGE, R102. -/
  | syncEdge
  /-- MISSING_SYNC_POINT, R111 and R114. -/
  | missingSyncPoint
  /-- SRSTN_ASSERTION, R60. -/
  | srstnAssertion
  /-- SRSTN_DEASSERTION, R61. -/
  | srstnDeassertion
  /-- POWER_ON_RESET, R24: with the levels of SRSTn (R62) and MCSn (R188) when it ends. -/
  | powerOnReset (srstn mcsn : Level)
  /-- FRAME_START, R169. -/
  | frameStart
  /-- FRAME_END, R173: with the bits of an incomplete last byte, fewer than eight, first clocked first (R167). -/
  | frameEnd (leftover : List Bool)
  /-- NAK_CODE, R170: the unknown code byte. -/
  | nakCode (code : Byte)
  /-- NOP, R181. -/
  | nop
  /-- READ_ITEM, R182. -/
  | readItem (item : Half) (count : Byte)
  /-- WRITE_ITEM, R184: of an item with no row of its own. -/
  | writeItem (item : Half) (value : Word)
  /-- SHADOW_WINDOW_WRITE, R29. -/
  | shadowWindowWrite (w : Window) (field : WindowField) (value : Word)
  /-- SHADOW_TIMING_WRITE, R95. -/
  | shadowTimingWrite (q : TimingField) (value : Word)
  /-- TRACKER_PARAMETER_WRITE, R104. -/
  | trackerParameterWrite (p : TrackerParam) (value : Word)
  /-- TRACK_EN_ENABLE, R105: a write of TRACK_EN with value 1. -/
  | trackEnEnable
  /-- TRACK_EN_DISABLE, R106: a write of TRACK_EN with value 0. -/
  | trackEnDisable
  /-- GATE_WRITE, R118. -/
  | gateWrite (value : Word)
  /-- ENABLE_SET_WRITE, R158. -/
  | enableSetWrite (value : Word)
  /-- READ_RECORD, R150. -/
  | readRecord
  /-- ACK_ATTN, R160. -/
  | ackAttn (mask : Word)
  /-- HOLD, R132. -/
  | hold
  /-- RELEASE, R134. -/
  | release
  /-- COMMIT_NOW, R130. -/
  | commitNow
  /-- ABORT_OPEN, R135. -/
  | abortOpen
  /-- APPLY_TABLE, R31. -/
  | applyTable
  /-- CANCEL_APPLY, R32. -/
  | cancelApply
  /-- CLEAR_FAULT, R41. -/
  | clearFault (index : Byte)
  /-- QUERY_WORD, R23. -/
  | queryWord (addr : Word)
  /-- COMMAND_PARAMETER_BYTE, R171: a known command code, a parameter byte, or a byte that the receiver ignores. -/
  | commandParameterByte (b : Byte)
  /-- COMMAND_CRC_MISMATCH, R172: the CRC byte received. -/
  | commandCrcMismatch (crc : Byte)
  deriving DecidableEq, Repr

end Sys2Proof
end

