-- ==== Sys2Proof/WellFormed.lean ====
section
/-! DEFINITION. The well-formed requests and commands: the form that section 4.2 of the overview requires of the attached
system, and the static limits of the other operands. -/

namespace Sys2Proof

/-- Length in bytes. -/
def Length.bytes : Length → Nat
  | .sub n => n
  | .words n => 8 * n

/-- Number of words that a request touches. -/
def Length.wordCount : Length → Nat
  | .sub _ => 1
  | .words n => n

/-- A sub-word access of 1, 2 or 4 bytes, or a run of 1 to 8 whole words (00_scope.md 4.2). -/
def Length.wf : Length → Bool
  | .sub n => n == 1 || n == 2 || n == 4
  | .words n => decide (1 ≤ n) && decide (n ≤ 8)

/-- Alignment in bytes: a sub-word access is naturally aligned, a run starts at a word. -/
def Length.alignment : Length → Nat
  | .sub n => n
  | .words _ => 8

/-- One word's lanes: eight of them. -/
def lanesWf (l : Lanes) : Bool :=
  l.length == 8

/-- Byte i of a word is a byte of a sub-word access of n bytes at this offset. -/
def inAccess (offset n i : Nat) : Bool :=
  decide (offset ≤ i) && decide (i < offset + n)

/-- A sub-word write carries bytes of its access only: "one word with a partial mask" (00_scope.md 4.2). Its mask may leave
some of them out (assumption log 6). -/
def subMaskWf (offset n : Nat) (l : Lanes) : Bool :=
  (l.zipIdx).all fun p => !p.1.isSome || inAccess offset n p.2

/-- A WRITE carries lanes for each of its words. -/
def payloadWf (addr : Word) (len : Length) : Payload → Bool
  | .read => true
  | .write ws =>
    ws.length == len.wordCount && ws.all lanesWf &&
      match len with
      | .sub n => ws.all (subMaskWf (addr.toNat % 8) n)
      | .words _ => true

/-- A length that 00_scope.md 4.2 allows at an address: legal, aligned, and not crossing a line. -/
def Length.fits (addr : Word) (len : Length) : Bool :=
  len.wf && addr.toNat % len.alignment == 0 && decide (addr.toNat % 64 + len.bytes ≤ 64)

/-- The form of a request of the memory link (00_scope.md 4.2): a length that fits its address, data for each word. -/
def Request.wf (r : Request) : Bool :=
  r.len.fits r.addr && payloadWf r.addr r.len r.payload

/-- Items whose writes have a row of their own in the table: the shadow window and timing items, the tracker parameters,
GATE and the enable set. TRACK_EN has rows for its values 0 and 1 only. -/
def writeHasOwnRow (item : Half) (value : Word) : Bool :=
  let n := item.toNat
  (decide (0x10 ≤ n) && decide (n < 0x50)) || (decide (0xB0 ≤ n) && decide (n ≤ 0xB2)) ||
    (decide (0xC1 ≤ n) && decide (n ≤ 0xC6)) || n == 0x111 || (n == 0xC0 && decide (value.toNat ≤ 1))

/-- A command whose operands are of the form its rule describes. -/
def Instr.wf : Instr → Bool
  | .requestArrival r => r.wf
  | .taking => true
  | .responseDeparture => true
  | .stallTimerExpiry => true
  | .grant => true
  | .downstreamResponse _ a =>
    match a with
    | .ok data => decide (data.length ≤ 64)
    | .error => true
  | .downstreamTimeoutExpiry _ => true
  | .staleTagRelease _ => true
  | .deadlineDue => true
  | .sealPoint => true
  | .frameBoundary => true
  | .syncEdge => true
  | .missingSyncPoint => true
  | .srstnAssertion => true
  | .srstnDeassertion => true
  | .powerOnReset _ _ => true
  | .frameStart => true
  | .frameEnd leftover => decide (leftover.length < 8)
  | .nakCode _ => true
  | .nop => true
  | .readItem _ _ => true
  | .writeItem item value => !writeHasOwnRow item value
  | .shadowWindowWrite _ _ _ => true
  | .shadowTimingWrite _ _ => true
  | .trackerParameterWrite _ _ => true
  | .trackEnEnable => true
  | .trackEnDisable => true
  | .gateWrite _ => true
  | .enableSetWrite _ => true
  | .readRecord => true
  | .ackAttn _ => true
  | .hold => true
  | .release => true
  | .commitNow => true
  | .abortOpen => true
  | .applyTable => true
  | .cancelApply => true
  | .clearFault _ => true
  | .queryWord _ => true
  | .commandParameterByte _ => true
  | .commandCrcMismatch _ => true

end Sys2Proof
end

