-- ==== Sys2Proof/Decode.lean ====
section
/-! DEFINITION. The wire forms of section 10.9: the command table, the bytes of a command frame, the item map, the CRC-8;
and `decodeTableWord`, which answers none because the table gives no row any bits. -/

namespace Sys2Proof

/-- spec/opcode_table.json gives no row any bits ("fields" is empty in all 41), so no word spells a command. -/
def decodeTableWord (_nbits _w : Nat) : Option Instr :=
  none

/-! ### Bytes, most significant first (R189) -/

/-- The two bytes of a 16-bit field. -/
def bytes16 (h : Half) : List Byte :=
  [h.extractLsb' 8 8, h.extractLsb' 0 8]

/-- The four bytes of a 32-bit field. -/
def bytes32 (v : Word) : List Byte :=
  [v.extractLsb' 24 8, v.extractLsb' 16 8, v.extractLsb' 8 8, v.extractLsb' 0 8]

/-- The 16-bit number of two bytes. -/
def half (a b : Byte) : Half :=
  a ++ b

/-- The 32-bit number of four bytes. -/
def word (a b c d : Byte) : Word :=
  a ++ b ++ c ++ d

/-- The byte that eight clocked bits make, the first bit the most significant (R167). -/
def byteOfBits (bits : List Bool) : Byte :=
  bits.foldl (fun acc b => (acc <<< 1) ||| (if b then 1#8 else 0#8)) 0#8

/-- The bits of a byte in the order they are clocked out, most significant first (R167). -/
def bitsOfByte (b : Byte) : List Bool :=
  [7, 6, 5, 4, 3, 2, 1, 0].map fun i => b.getLsbD i

/-! ### CRC-8 (R175) -/

/-- One shift of the CRC register: "if the bit shifted out was 1, the register is combined with 07h". -/
def crcShift (r : Byte) : Byte :=
  if r.getLsbD 7 then (r <<< 1) ^^^ 0x07#8 else r <<< 1

/-- The given number of shifts. -/
def crcShifts : Nat → Byte → Byte
  | 0, r => r
  | n + 1, r => crcShifts n (crcShift r)

/-- One byte enters: exclusive OR, then eight shifts. -/
def crcByte (r b : Byte) : Byte :=
  crcShifts 8 (r ^^^ b)

/-- CRC-8 of a sequence of bytes, from 00h (R175). -/
def crc8 (bs : List Byte) : Byte :=
  bs.foldl crcByte 0x00#8

/-! ### Command table (section 10.9, R171) -/

/-- Number of parameter bytes that a known code fixes; none for an unknown code. -/
def paramCount (code : Byte) : Option Nat :=
  match code.toNat with
  | 0x00 => some 0
  | 0x01 => some 3
  | 0x02 => some 6
  | 0x03 => some 0
  | 0x04 => some 4
  | 0x08 => some 0
  | 0x09 => some 0
  | 0x0A => some 0
  | 0x0B => some 0
  | 0x0C => some 0
  | 0x0D => some 0
  | 0x0E => some 1
  | 0x10 => some 4
  | _ => none

/-! ### Item map (section 10.9) -/

/-- Offset of a window item within the four of its window. -/
def windowFieldOffset : WindowField → Nat
  | .base => 0
  | .pages => 1
  | .policyView => 2
  | .enable => 3

/-- The window field at an offset 0 to 3. -/
def windowFieldAt : Nat → WindowField
  | 0 => .base
  | 1 => .pages
  | 2 => .policyView
  | _ => .enable

/-- Offset of a timing item within its set. -/
def timingFieldOffset : TimingField → Nat
  | .period => 0
  | .sealPhase => 1
  | .deadline => 2

/-- Item number of a tracker parameter. -/
def trackerParamNumber : TrackerParam → Nat
  | .tolNarrow => 0x00C1
  | .tolWide => 0x00C2
  | .nAcq => 0x00C3
  | .nLock => 0x00C4
  | .holdoverLimit => 0x00C5

/-- Item number of an item. -/
def itemNumber : Item → Nat
  | .deviceId => 0x0000
  | .shadowWindow w f => 0x0010 + 4 * w.val + windowFieldOffset f
  | .activeWindow w f => 0x0050 + 4 * w.val + windowFieldOffset f
  | .faultSet => 0x0090
  | .applyOutcome => 0x0091
  | .windowCounts w => 0x00A0 + w.val
  | .shadowTiming q => 0x00B0 + timingFieldOffset q
  | .activeTiming q => 0x00B4 + timingFieldOffset q
  | .trackEn => 0x00C0
  | .trackerParam p => trackerParamNumber p
  | .gate => 0x00C6
  | .trackerState => 0x00C8
  | .goodAndLock => 0x00C9
  | .lastInterval => 0x00CA
  | .holdoverCount => 0x00CB
  | .frameNumber => 0x00D0
  | .phase => 0x00D1
  | .holdLimit => 0x00E0
  | .lateSeal => 0x00E1
  | .sealState => 0x00E2
  | .openGen => 0x00F0
  | .openCount => 0x00F1
  | .sealedGen => 0x00F2
  | .sealedRemaining => 0x00F3
  | .freeSlots => 0x00F4
  | .stallLimit => 0x0100
  | .dsTimeout => 0x0101
  | .retryLimit => 0x0102
  | .drainShare => 0x0103
  | .causeSet => 0x0110
  | .enableSet => 0x0111
  | .recordsUnread => 0x0120
  | .recordsHeld => 0x0121

/-- The item numbers outside the per-window runs, with their items. -/
def scalarItems : List (Nat × Item) :=
  [(0x0000, .deviceId), (0x0090, .faultSet), (0x0091, .applyOutcome),
   (0x00B0, .shadowTiming .period), (0x00B1, .shadowTiming .sealPhase), (0x00B2, .shadowTiming .deadline),
   (0x00B4, .activeTiming .period), (0x00B5, .activeTiming .sealPhase), (0x00B6, .activeTiming .deadline),
   (0x00C0, .trackEn), (0x00C1, .trackerParam .tolNarrow), (0x00C2, .trackerParam .tolWide),
   (0x00C3, .trackerParam .nAcq), (0x00C4, .trackerParam .nLock), (0x00C5, .trackerParam .holdoverLimit),
   (0x00C6, .gate)] ++
  [(0x00C8, .trackerState), (0x00C9, .goodAndLock), (0x00CA, .lastInterval), (0x00CB, .holdoverCount),
   (0x00D0, .frameNumber), (0x00D1, .phase), (0x00E0, .holdLimit), (0x00E1, .lateSeal), (0x00E2, .sealState),
   (0x00F0, .openGen), (0x00F1, .openCount), (0x00F2, .sealedGen), (0x00F3, .sealedRemaining),
   (0x00F4, .freeSlots), (0x0100, .stallLimit), (0x0101, .dsTimeout), (0x0102, .retryLimit),
   (0x0103, .drainShare), (0x0110, .causeSet), (0x0111, .enableSet), (0x0120, .recordsUnread),
   (0x0121, .recordsHeld)]

/-- The item with a number, none where the number is not in the item map (section 10.9, note 1). -/
def itemOfNumber (n : Nat) : Option Item :=
  if 0x0010 ≤ n ∧ n < 0x0050 then
    some (.shadowWindow (Fin.ofNat 16 ((n - 0x0010) / 4)) (windowFieldAt ((n - 0x0010) % 4)))
  else if 0x0050 ≤ n ∧ n < 0x0090 then
    some (.activeWindow (Fin.ofNat 16 ((n - 0x0050) / 4)) (windowFieldAt ((n - 0x0050) % 4)))
  else if 0x00A0 ≤ n ∧ n < 0x00B0 then
    some (.windowCounts (Fin.ofNat 16 (n - 0x00A0)))
  else
    scalarItems.lookup n

/-! ### Command frames (section 10.9) -/

/-- The code and parameter bytes of a WRITE_ITEM frame. -/
def writeItemBytes (item : Half) (value : Word) : List Byte :=
  0x02#8 :: (bytes16 item ++ bytes32 value)

/-- The code and parameter bytes of the frame that a management command arrives in; none for the rows that are no
management command. -/
def commandBytes : Instr → Option (List Byte)
  | .requestArrival _ => none
  | .taking => none
  | .responseDeparture => none
  | .stallTimerExpiry => none
  | .grant => none
  | .downstreamResponse _ _ => none
  | .downstreamTimeoutExpiry _ => none
  | .staleTagRelease _ => none
  | .deadlineDue => none
  | .sealPoint => none
  | .frameBoundary => none
  | .syncEdge => none
  | .missingSyncPoint => none
  | .srstnAssertion => none
  | .srstnDeassertion => none
  | .powerOnReset _ _ => none
  | .frameStart => none
  | .frameEnd _ => none
  | .nakCode _ => none
  | .nop => some [0x00#8]
  | .readItem item count => some (0x01#8 :: (bytes16 item ++ [count]))
  | .writeItem item value => some (writeItemBytes item value)
  | .shadowWindowWrite w f value =>
    some (writeItemBytes (BitVec.ofNat 16 (itemNumber (.shadowWindow w f))) value)
  | .shadowTimingWrite q value => some (writeItemBytes (BitVec.ofNat 16 (itemNumber (.shadowTiming q))) value)
  | .trackerParameterWrite p value => some (writeItemBytes (BitVec.ofNat 16 (itemNumber (.trackerParam p))) value)
  | .trackEnEnable => some (writeItemBytes (BitVec.ofNat 16 (itemNumber .trackEn)) 1#32)
  | .trackEnDisable => some (writeItemBytes (BitVec.ofNat 16 (itemNumber .trackEn)) 0#32)
  | .gateWrite value => some (writeItemBytes (BitVec.ofNat 16 (itemNumber .gate)) value)
  | .enableSetWrite value => some (writeItemBytes (BitVec.ofNat 16 (itemNumber .enableSet)) value)
  | .readRecord => some [0x03#8]
  | .ackAttn mask => some (0x04#8 :: bytes32 mask)
  | .hold => some [0x08#8]
  | .release => some [0x09#8]
  | .commitNow => some [0x0A#8]
  | .abortOpen => some [0x0B#8]
  | .applyTable => some [0x0C#8]
  | .cancelApply => some [0x0D#8]
  | .clearFault index => some [0x0E#8, index]
  | .queryWord addr => some (0x10#8 :: bytes32 addr)
  | .commandParameterByte _ => none
  | .commandCrcMismatch _ => none

/-- The row of a WRITE_ITEM frame: the row of its item where it has one, else WRITE_ITEM. -/
def writeRow (item : Half) (value : Word) : Instr :=
  match itemOfNumber item.toNat with
  | some (.shadowWindow w f) => .shadowWindowWrite w f value
  | some (.shadowTiming q) => .shadowTimingWrite q value
  | some (.trackerParam p) => .trackerParameterWrite p value
  | some .trackEn =>
    if value = 1#32 then .trackEnEnable else if value = 0#32 then .trackEnDisable else .writeItem item value
  | some .gate => .gateWrite value
  | some .enableSet => .enableSetWrite value
  | _ => .writeItem item value

/-- The row that the code and parameter bytes of a complete frame spell (section 10.9); none for bytes that are no
command. -/
def commandOfBytes : List Byte → Option Instr
  | [code] =>
    match code.toNat with
    | 0x00 => some .nop
    | 0x03 => some .readRecord
    | 0x08 => some .hold
    | 0x09 => some .release
    | 0x0A => some .commitNow
    | 0x0B => some .abortOpen
    | 0x0C => some .applyTable
    | 0x0D => some .cancelApply
    | _ => none
  | [code, index] => if code = 0x0E#8 then some (.clearFault index) else none
  | [code, a, b, c] => if code = 0x01#8 then some (.readItem (half a b) c) else none
  | [code, a, b, c, d] =>
    if code = 0x04#8 then some (.ackAttn (word a b c d))
    else if code = 0x10#8 then some (.queryWord (word a b c d)) else none
  | [code, a, b, c, d, e, f] =>
    if code = 0x02#8 then some (writeRow (half a b) (word c d e f)) else none
  | _ => none

end Sys2Proof
end

