-- ==== Sys2Proof/Machine/State.lean ====
section
/-! DEFINITION. The state of the FL416: one structure for each block of section 2.2 of the overview, as plain data, and
the state after power-on reset. Every field is named in INVENTORY.md with the rule that names it. -/

namespace Sys2Proof.Machine

/-! ### Frame stamps and the Frame Timer (05_frame_timer.md) -/

/-- The frame number and phase together (R94). -/
structure Stamp where
  frame : Word
  phase : Nat
  deriving DecidableEq, Repr

/-- PERIOD, SEAL_PHASE and DEADLINE (section 5.6). -/
structure Timing where
  period : Nat
  sealPhase : Nat
  deadline : Nat
  deriving DecidableEq, Repr

/-- State of the Frame Timer (section 5.1). -/
structure FrameTimer where
  phase : Nat
  frame : Word
  /-- The seal-point-offered flag. -/
  offered : Bool
  active : Timing
  shadow : Timing
  refusalMark : Bool
  deriving DecidableEq, Repr

/-! ### Sync Tracker (06_sync_tracker.md) -/

/-- Tracker states (R103). -/
inductive TrackerState where
  | free
  | acquire
  | track
  | locked
  | holdover
  deriving DecidableEq, Repr

/-- Values of GATE (R104). -/
inductive Gate where
  | any
  | lockedOnly
  | lockedOrHoldover
  deriving DecidableEq, Repr

/-- State and parameters of the Sync Tracker (R103, R104). -/
structure Tracker where
  state : TrackerState
  /-- Instant of the last accepted edge. -/
  reference : Option Nat
  goodCount : Nat
  lockCount : Nat
  lastInterval : Nat
  plast : Nat
  holdoverCount : Nat
  trackEn : Bool
  tolNarrow : Nat
  tolWide : Nat
  nAcq : Nat
  nLock : Nat
  holdoverLimit : Nat
  gate : Gate
  deriving DecidableEq, Repr

/-- The SYNC input (R102): the levels it will show at the coming ticks (the pin is low once they are used up), the levels
seen at the last two ticks, and whether an edge recognised at the present tick is still to be handled
(assumption log 12). -/
structure SyncInput where
  levels : List Level
  previous : Level
  beforeThat : Level
  edgeDue : Bool
  deriving DecidableEq, Repr

/-! ### Staging Store (01_staging_store_and_generations.md) -/

/-- An entry (R2). The byte mask is the set of lanes that hold a byte. -/
structure Entry where
  /-- Word address, a multiple of 8. -/
  addr : Word
  lanes : Lanes
  window : Window
  /-- Creation position within the generation, from 1. -/
  position : Nat
  deriving DecidableEq, Repr

/-- Drain states of an entry held in a slot (R2). -/
inductive DrainState where
  | pending
  | inFlight
  deriving DecidableEq, Repr

/-- A sealed entry: an entry with its drain state and retries used (R2). -/
structure SealedEntry where
  entry : Entry
  drain : DrainState
  retries : Nat
  deriving DecidableEq, Repr

/-- What a non-empty open generation holds beside its number (R4). -/
structure OpenBody where
  entries : List Entry
  windowSet : Half
  firstWrite : Stamp
  lastWrite : Stamp
  deferral : Nat
  deriving DecidableEq, Repr

/-- Seal causes (R11). -/
inductive SealCause where
  | sealPoint
  | shortFrame
  | owed
  | commitNow
  deriving DecidableEq, Repr

/-- The sealed generation: what it brought from the open generation and the fields of R11. -/
structure SealedGen where
  number : Word
  /-- The sealed entries still held in slots, in creation order. -/
  entries : List SealedEntry
  /-- Entry count at the seal, not reduced by the drain. -/
  entryCount : Nat
  /-- Byte count at the seal, not reduced by the drain. -/
  byteCount : Nat
  windowSet : Half
  firstWrite : Stamp
  lastWrite : Stamp
  deferral : Nat
  stamp : Stamp
  cause : SealCause
  sealTime : Nat
  deadline : Nat
  tracker : TrackerState
  late : Bool
  doneCount : Nat
  droppedCount : Nat
  deriving DecidableEq, Repr

/-- The Staging Store: the open generation, empty when it has no body, and the sealed generation where one exists. The
slots of R1 are the entries of the two lists; the rest of the 512 are free. -/
structure Store where
  openNumber : Word
  openBody : Option OpenBody
  sealedGen : Option SealedGen
  deriving DecidableEq, Repr

/-! ### Window Table (02_address_windows.md) -/

/-- Full-store policies (R25). -/
inductive Policy where
  | stall
  | reject
  | spill
  deriving DecidableEq, Repr

/-- Read views (R25). -/
inductive View where
  | latest
  | committed
  deriving DecidableEq, Repr

/-- A window descriptor (R25). -/
structure Descriptor where
  enable : Bool
  base : Word
  pages : Nat
  policy : Policy
  view : View
  deriving DecidableEq, Repr

/-- Run state of a window index (R25). -/
inductive RunState where
  | normal
  | faulted
  deriving DecidableEq, Repr

/-- Apply state (section 2.4). -/
inductive ApplyState where
  | idle
  | armed
  deriving DecidableEq, Repr

/-- Last apply outcome with its failing window (R37). -/
inductive ApplyOutcome where
  | noOutcome
  | applied
  | refusedLimit (w : Window)
  | refusedOverlap (w : Window)
  | cancelled
  deriving DecidableEq, Repr

/-- State of the Window Table. The two tables hold 16 descriptors each; `faultSet` has bit w set while the run state of
index w is FAULTED (R39). -/
structure WindowTable where
  active : List Descriptor
  shadow : List Descriptor
  applyState : ApplyState
  lastOutcome : ApplyOutcome
  faultSet : Half
  deriving DecidableEq, Repr

/-! ### U-port (03_upstream_request_handling.md) -/

/-- Phases of a URQ entry (R44). -/
inductive UrqPhase where
  | waiting
  | forwarded
  | answeredReady
  deriving DecidableEq, Repr

/-- Classification of a request (R26). -/
inductive Classification where
  | passThrough
  | staged (w : Window) (policy : Policy) (view : View) (run : RunState)
  deriving DecidableEq, Repr

/-- A URQ entry (R44). `serial` names the entry to the issue order and the in-flight list (assumption log 10). In the
snapshot a byte is `some` value, or `none` for "from memory" (R21). -/
structure UrqEntry where
  serial : Nat
  request : Request
  phase : UrqPhase
  classification : Option Classification
  snapshot : Option (List (Option Byte))
  response : Option Answer
  deriving DecidableEq, Repr

/-- Origin of a downstream request with the party its outcome goes to (R72): a URQ entry, or a sealed entry by its
creation position. -/
inductive Origin where
  | read (serial : Nat)
  | write (serial : Nat)
  | spill (serial : Nat)
  | drain (position : Nat)
  deriving DecidableEq, Repr

/-- An unissued request of the downstream issue order (R48). -/
structure Forward where
  origin : Origin
  request : Request
  deriving DecidableEq, Repr

/-- The stall timer of a stalled taking head: its due instant, none where the stall has no limit (R51). -/
structure StallTimer where
  due : Option Nat
  deriving DecidableEq, Repr

/-- State of the U-port (R44, R48, R51, R56, R61, R186). -/
structure UPort where
  urq : List UrqEntry
  issueOrder : List Forward
  stall : Option StallTimer
  /-- A taking attempt has found the taking head spill-ordered, and the head is still held (R56). -/
  spillHeld : Bool
  isOpen : Bool
  stallLimit : Nat
  nextSerial : Nat
  /-- The responses that have left the upstream port, oldest first (assumption log 11). -/
  sent : List Answer
  deriving DecidableEq, Repr

/-! ### Drain Engine and D-port (04_drain_engine_and_downstream_port.md) -/

/-- State of the Drain Engine (section 4.1). -/
structure DrainEngine where
  cursor : Option Nat
  urgent : Bool
  deriving DecidableEq, Repr

/-- A member of the in-flight list (R72). -/
structure InFlight where
  tag : Tag
  origin : Origin
  issueTime : Nat
  expiry : Nat
  orphan : Bool
  deriving DecidableEq, Repr

/-- A stale tag with its release instant (R72, R76). -/
structure StaleTag where
  tag : Tag
  release : Nat
  deriving DecidableEq, Repr

/-- A request as it was sent on the downstream port. -/
structure SentRequest where
  tag : Tag
  request : Request
  deriving DecidableEq, Repr

/-- State of the D-port and its arbiter (R72, R79, R81). -/
structure DPort where
  inFlight : List InFlight
  stale : List StaleTag
  shareCounter : Nat
  dsTimeout : Nat
  retryLimit : Nat
  drainShare : Nat
  /-- The requests that have been sent downstream, oldest first (assumption log 11). -/
  sent : List SentRequest
  deriving DecidableEq, Repr

/-! ### Seal Controller (07_seal_control.md) -/

/-- Hold state (R122). -/
inductive HoldState where
  | notHeld
  | held
  deriving DecidableEq, Repr

/-- Values of LATE_SEAL (R122). -/
inductive LateSeal where
  | immediate
  | nextPoint
  deriving DecidableEq, Repr

/-- State of the Seal Controller (R122). -/
structure SealControl where
  hold : HoldState
  holdCount : Nat
  expired : Bool
  owed : Bool
  commitNow : Bool
  holdLimit : Nat
  lateSeal : LateSeal
  deriving DecidableEq, Repr

/-! ### Commit Record Ring (08_commit_records.md) -/

/-- Outcomes of a generation (R145). -/
inductive RecordOutcome where
  | complete
  | partlyDropped
  | aborted
  | resetDiscarded
  deriving DecidableEq, Repr

/-- The seal fields of a record (R145). -/
structure SealFields where
  cause : SealCause
  stamp : Stamp
  tracker : TrackerState
  drainTicks : Nat
  deriving DecidableEq, Repr

/-- A commit record (R145). -/
structure CommitRecord where
  number : Word
  outcome : RecordOutcome
  late : Bool
  entryCount : Nat
  byteCount : Nat
  droppedCount : Nat
  windowSet : Half
  firstWrite : Stamp
  lastWrite : Stamp
  deferral : Nat
  sealFields : Option SealFields
  deriving DecidableEq, Repr

/-- A record in the ring with its read mark (R142). -/
structure RingEntry where
  record : CommitRecord
  isRead : Bool
  deriving DecidableEq, Repr

/-! ### Attention Unit (09_attention_and_fault_reporting.md) -/

/-- The causes (section 9.2). -/
inductive Cause where
  | commitDone
  | commitLate
  | drainDrop
  | overrun
  | aborted
  | holdExpired
  | lockGained
  | lockLost
  | holdoverExhausted
  | tableApplied
  | tableRefused
  | timingRefused
  | writeRefused
  | stallTimeout
  | downstreamTimeout
  | warmReset
  deriving DecidableEq, Repr

/-- State of the Attention Unit (R155): the two sets by the positions of section 10.9, and the ATTNn output. -/
structure Attention where
  causes : Half
  enabled : Half
  /-- ATTNn is driven low. -/
  asserted : Bool
  deriving DecidableEq, Repr

/-! ### Management Port (10_management_port.md) -/

/-- Receiver states (R168). -/
inductive RxState where
  | idle
  | awaitCode
  | params
  | awaitCrc
  | done
  | discard
  deriving DecidableEq, Repr

/-- State of the management port (R168), with the level of MCSn and the number of bytes of the outgoing stream already
clocked (R176). -/
structure Management where
  rx : RxState
  buffer : List Byte
  /-- The reply slot: code and data bytes. -/
  slot : Option (List Byte)
  outgoing : Option (List Byte)
  clocked : Nat
  lastFrameError : Bool
  mcsn : Level
  deriving DecidableEq, Repr

/-! ### The whole part -/

/-- The state of the part, the instant of the present tick, the count of free values drawn, and the queue of commands that
are waiting (first in, first out). -/
structure State where
  /-- Ticks since power-on reset ended; the scale of every instant in the state. -/
  now : Nat
  /-- Level of SRSTn. -/
  srstn : Level
  sync : SyncInput
  store : Store
  windows : WindowTable
  uport : UPort
  drain : DrainEngine
  dport : DPort
  timer : FrameTimer
  tracker : Tracker
  sealing : SealControl
  ring : List RingEntry
  attention : Attention
  management : Management
  /-- Free values drawn so far: the number of the next draw (assumption log 24). -/
  drawn : Nat
  pending : List Instr
  deriving DecidableEq, Repr

/-- What stops the machine. -/
inductive Fault where
  /-- Raised by SYNC_EDGE: an edge in TRACK or LOCKED later than PERIOD + TOL_WIDE. R107 says that no state reached has
  one, and R112 and R113 give it no effect. Safe: nothing is claimed of such a state (assumption log 8). -/
  | lateEdgeInTrack
  deriving DecidableEq, Repr

/-- What the machine gives no meaning to. -/
inductive Refusal where
  /-- Raised by an arm of exec for a command that has no meaning yet. No arm does. Safe. -/
  | notModelled (mnemonic : String)
  deriving DecidableEq, Repr

/-- A descriptor after power-on reset (R25). -/
def Descriptor.reset : Descriptor :=
  { enable := false, base := 0#32, pages := 1, policy := .stall, view := .latest }

/-- The timing set after power-on reset (R100). -/
def Timing.reset : Timing :=
  { period := 50000, sealPhase := 45000, deadline := 4000 }

/-- The part after power-on reset with SRSTn and MCSn high: R24, R42, R62, R85, R100, R120, R140, R154, R166, R188. The
pin levels, the instant and the count of draws are the model's choice (assumption log 12, 14, 15, 24). -/
def State.reset : State where
  now := 0
  srstn := .high
  sync := { levels := [], previous := .high, beforeThat := .high, edgeDue := false }
  store := { openNumber := 1#32, openBody := none, sealedGen := none }
  windows :=
    { active := List.replicate 16 Descriptor.reset, shadow := List.replicate 16 Descriptor.reset,
      applyState := .idle, lastOutcome := .noOutcome, faultSet := 0#16 }
  uport :=
    { urq := [], issueOrder := [], stall := none, spillHeld := false, isOpen := true, stallLimit := 1024,
      nextSerial := 0, sent := [] }
  drain := { cursor := none, urgent := false }
  dport :=
    { inFlight := [], stale := [], shareCounter := 0, dsTimeout := 256, retryLimit := 1, drainShare := 4, sent := [] }
  timer :=
    { phase := 0, frame := 0#32, offered := false, active := Timing.reset, shadow := Timing.reset,
      refusalMark := false }
  tracker :=
    { state := .free, reference := none, goodCount := 0, lockCount := 0, lastInterval := 0, plast := 0,
      holdoverCount := 0, trackEn := false, tolNarrow := 50, tolWide := 500, nAcq := 4, nLock := 32,
      holdoverLimit := 8, gate := .any }
  sealing :=
    { hold := .notHeld, holdCount := 0, expired := false, owed := false, commitNow := false, holdLimit := 4,
      lateSeal := .immediate }
  ring := []
  attention := { causes := 0#16, enabled := 0#16, asserted := false }
  management :=
    { rx := .idle, buffer := [], slot := none, outgoing := none, clocked := 0, lastFrameError := false,
      mcsn := .high }
  drawn := 0
  pending := []

/-! ### Updates of one field

Every operation of the machine writes the state through these, so that a proof reads a field of an updated state by the
lemmas of Laws/State.lean. -/

/-- The state with another `now`. -/
def State.setNow (s : State) (x : Nat) : State :=
  { s with now := x }

/-- The state with another `srstn`. -/
def State.setSrstn (s : State) (x : Level) : State :=
  { s with srstn := x }

/-- The state with another `sync`. -/
def State.setSync (s : State) (x : SyncInput) : State :=
  { s with sync := x }

/-- The state with another `store`. -/
def State.setStore (s : State) (x : Store) : State :=
  { s with store := x }

/-- The state with another `windows`. -/
def State.setWindows (s : State) (x : WindowTable) : State :=
  { s with windows := x }

/-- The state with another `uport`. -/
def State.setUport (s : State) (x : UPort) : State :=
  { s with uport := x }

/-- The state with another `drain`. -/
def State.setDrain (s : State) (x : DrainEngine) : State :=
  { s with drain := x }

/-- The state with another `dport`. -/
def State.setDport (s : State) (x : DPort) : State :=
  { s with dport := x }

/-- The state with another `timer`. -/
def State.setTimer (s : State) (x : FrameTimer) : State :=
  { s with timer := x }

/-- The state with another `tracker`. -/
def State.setTracker (s : State) (x : Tracker) : State :=
  { s with tracker := x }

/-- The state with another `sealing`. -/
def State.setSealing (s : State) (x : SealControl) : State :=
  { s with sealing := x }

/-- The state with another `ring`. -/
def State.setRing (s : State) (x : List RingEntry) : State :=
  { s with ring := x }

/-- The state with another `attention`. -/
def State.setAttention (s : State) (x : Attention) : State :=
  { s with attention := x }

/-- The state with another `management`. -/
def State.setManagement (s : State) (x : Management) : State :=
  { s with management := x }

/-- The state with another `drawn`. -/
def State.setDrawn (s : State) (x : Nat) : State :=
  { s with drawn := x }

/-- The state with another `pending`. -/
def State.setPending (s : State) (x : List Instr) : State :=
  { s with pending := x }

end Sys2Proof.Machine
end

