-- ==== Sys2Proof/Machine/Operands.lean ====
section
/-! DEFINITION. The operand forms: the words, bytes and lanes of a request, the counts and lookups of the Staging Store,
the classification of an address, and the encodings of items, records and replies (section 10.9). -/

namespace Sys2Proof.Machine

/-! ### Words, lanes and ranges (section 1.1, 00_scope.md 4.2) -/

/-- The address of the word that holds a byte: "bits 2:0 do not affect the lookup" (R23). -/
def wordAddr (a : Word) : Word :=
  a &&& 0xFFFFFFF8#32

/-- The word addresses of a request in ascending order. -/
def rangeWords (r : Request) : List Word :=
  (List.range r.len.wordCount).map fun i => wordAddr r.addr + BitVec.ofNat 32 (8 * i)

/-- The byte addresses of a request in ascending order. -/
def rangeBytes (r : Request) : List Word :=
  (List.range r.len.bytes).map fun i => r.addr + BitVec.ofNat 32 i

/-- A word has at least one mask bit set. -/
def carries (l : Lanes) : Bool :=
  l.any Option.isSome

/-- The number of mask bits set. -/
def laneCount (l : Lanes) : Nat :=
  l.countP Option.isSome

/-- The byte mask as an 8-bit value, bit i for byte i (R189). -/
def laneMask (l : Lanes) : Byte :=
  l.foldr (fun lane acc => (acc <<< 1) ||| (if lane.isSome then 1#8 else 0#8)) 0#8

/-- The lane of the byte at address a. -/
def laneAt (l : Lanes) (a : Word) : Option Byte :=
  l.getD (a.toNat % 8) none

/-- The lanes of a word that carries no byte. -/
def emptyLanes : Lanes :=
  List.replicate 8 none

/-- Coalescing (R5): the bytes named by the new mask replace those held; the others stay. -/
def overlay (new held : Lanes) : Lanes :=
  List.zipWith (fun n h => match n with | some b => some b | none => h) new held

/-- The words of a WRITE with their addresses and lanes, in ascending order; a READ has none. -/
def writeWords (r : Request) : List (Word × Lanes) :=
  match r.payload with
  | .read => []
  | .write ws => (rangeWords r).zip ws

/-- The words of a WRITE with a non-empty mask: "a word of a request whose byte mask is empty carries no bytes and is not
considered by the store" (section 1.3). -/
def carryingWords (r : Request) : List (Word × Lanes) :=
  (writeWords r).filter fun p => carries p.2

/-- Two requests' words meet: the words of `r`'s range and the words that `w` carries bytes for (R46, R56). -/
def sharesWord (r w : Request) : Bool :=
  (rangeWords r).any fun a => (carryingWords w).any fun p => p.1 == a

/-! ### What is recorded of a request that is not of the form of 00_scope.md 4.2 (R44; assumption log 6) -/

/-- The lengths that 00_scope.md 4.2 allows at an address. -/
def legalLengths (addr : Word) : List Length :=
  [Length.sub 1, .sub 2, .sub 4, .words 1, .words 2, .words 3, .words 4, .words 5, .words 6, .words 7, .words 8].filter
    fun len => len.fits addr

/-- A free length among those that fit the address. One byte always fits. -/
def freeLength (draw : Nat) (addr : Word) : Length :=
  (legalLengths addr).getD (Config.freeChoice draw % (legalLengths addr).length) (.sub 1)

/-- A free lane where the access has a byte. -/
def freeLaneOf (draw : Nat) (addr : Word) (len : Length) (word lane : Nat) : Option Byte :=
  match len with
  | .sub n => if inAccess (addr.toNat % 8) n lane then Config.freeLane draw (8 * word + lane) else none
  | .words _ => Config.freeLane draw (8 * word + lane)

/-- Free data and masks for the words of a WRITE. -/
def freeWords (draw : Nat) (addr : Word) (len : Length) : List Lanes :=
  (List.range len.wordCount).map fun word => (List.range 8).map fun lane => freeLaneOf draw addr len word lane

/-- The length recorded: as received where it fits the start address, else a free one. -/
def receivedLength (draw : Nat) (r : Request) : Length :=
  if r.len.fits r.addr then r.len else freeLength draw r.addr

/-- The data and masks recorded: as received where they are of that length, else free. -/
def receivedPayload (draw : Nat) (r : Request) : Payload :=
  match r.payload with
  | .read => .read
  | .write ws =>
    if payloadWf r.addr (receivedLength draw r) (.write ws) then .write ws
    else .write (freeWords draw r.addr (receivedLength draw r))

/-- What a URQ entry records of a request: kind and start address as received, and the rest "as received" where it is "per
section 4.2 of the overview" (R44). A request of that form is recorded as it is. -/
def received (draw : Nat) (r : Request) : Request :=
  { addr := r.addr, len := receivedLength draw r, payload := receivedPayload draw r }

/-! ### The Staging Store's counts and lookups (R1, R4, R11, R18, R20) -/

/-- The open entries, in creation order. -/
def openEntries (st : Store) : List Entry :=
  match st.openBody with
  | none => []
  | some b => b.entries

/-- The sealed entries held in slots, in creation order. -/
def sealedEntries (st : Store) : List SealedEntry :=
  match st.sealedGen with
  | none => []
  | some g => g.entries

/-- Entry count of the open generation (R4). -/
def openCount (st : Store) : Nat :=
  (openEntries st).length

/-- Sum of the mask sizes of some entries (R4). -/
def bytesOf (es : List Entry) : Nat :=
  (es.map fun e => laneCount e.lanes).sum

/-- Byte count of the open generation (R4). -/
def openBytes (st : Store) : Nat :=
  bytesOf (openEntries st)

/-- Window set of the open generation, empty while it is empty (R4). -/
def openWindowSet (st : Store) : Half :=
  match st.openBody with
  | none => 0#16
  | some b => b.windowSet

/-- The open generation is empty: its entry count is 0 (R122). -/
def openEmpty (st : Store) : Bool :=
  (openEntries st).isEmpty

/-- Sealed remaining count, 0 while no sealed generation exists (R11, R19). -/
def sealedRemaining (st : Store) : Nat :=
  (sealedEntries st).length

/-- Free slot count (R1). -/
def freeSlots (st : Store) : Nat :=
  Config.slotCount - (openCount st + sealedRemaining st)

/-- Open count of a window (R18). -/
def openCountOf (st : Store) (w : Window) : Nat :=
  (openEntries st).countP fun e => e.window == w

/-- Sealed count of a window (R18). -/
def sealedCountOf (st : Store) (w : Window) : Nat :=
  (sealedEntries st).countP fun e => e.entry.window == w

/-- The open entry of a word (R20). -/
def lookupOpen (st : Store) (a : Word) : Option Entry :=
  (openEntries st).find? fun e => e.addr == a

/-- The sealed entry of a word (R20). -/
def lookupSealed (st : Store) (a : Word) : Option SealedEntry :=
  (sealedEntries st).find? fun e => e.entry.addr == a

/-- Some open entry is for the word. -/
def hasOpen (st : Store) (a : Word) : Bool :=
  (openEntries st).any fun e => e.addr == a

/-- Some sealed entry held in the store is for the word. -/
def hasSealed (st : Store) (a : Word) : Bool :=
  (sealedEntries st).any fun e => e.entry.addr == a

/-- Need of a staged write: its words with a non-empty mask that have no open entry (R7). -/
def need (st : Store) (r : Request) : Nat :=
  (carryingWords r).countP fun p => !hasOpen st p.1

/-- The byte that the open entry of its word supplies. -/
def openByte (st : Store) (a : Word) : Option Byte :=
  (lookupOpen st (wordAddr a)).bind fun e => laneAt e.lanes a

/-- The byte that the sealed entry of its word supplies, in both drain states. -/
def sealedByte (st : Store) (a : Word) : Option Byte :=
  (lookupSealed st (wordAddr a)).bind fun e => laneAt e.entry.lanes a

/-- One byte of a snapshot: a value, or none for "from memory" (R21). -/
def snapshotByte (st : Store) (view : View) (a : Word) : Option Byte :=
  match view with
  | .latest =>
    match openByte st a with
    | some b => some b
    | none => sealedByte st a
  | .committed => sealedByte st a

/-- Snapshot of a read over every byte of its range (R21). -/
def snapshot (st : Store) (view : View) (r : Request) : List (Option Byte) :=
  (rangeBytes r).map (snapshotByte st view)

/-- The bytes of a snapshot that supplies every byte, none where one is marked from memory (R58). -/
def allSupplied : List (Option Byte) → Option (List Byte)
  | [] => some []
  | none :: _ => none
  | some b :: rest => (allSupplied rest).map fun bs => b :: bs

/-- The data of a staged read answered by memory: the snapshot's byte where it supplied one, else memory's (R58). -/
def mergeSnapshot (snap : List (Option Byte)) (data : List Byte) : List Byte :=
  List.zipWith (fun s m => match s with | some b => b | none => m) snap data

/-! ### Windows (R25, R26) -/

/-- The sixteen window indices in ascending order. -/
def windowIndices : List Window :=
  [0, 1, 2, 3, 4, 5, 6, 7, 8, 9, 10, 11, 12, 13, 14, 15]

/-- The descriptor of an index. -/
def descriptorOf (table : List Descriptor) (w : Window) : Descriptor :=
  table.getD w.val Descriptor.reset

/-- End of a window, not included; it may be as high as 2^32, or above (R25). -/
def windowEnd (d : Descriptor) : Nat :=
  d.base.toNat + d.pages * Config.pageBytes

/-- An enabled descriptor covers an address (R26). -/
def covers (d : Descriptor) (a : Word) : Bool :=
  d.enable && decide (d.base.toNat ≤ a.toNat) && decide (a.toNat < windowEnd d)

/-- The set holding one window (R189). -/
def windowBit (w : Window) : Half :=
  BitVec.ofNat 16 (2 ^ w.val)

/-- Run state of an index (R39). -/
def runStateOf (t : WindowTable) (w : Window) : RunState :=
  if t.faultSet.getLsbD w.val then .faulted else .normal

/-- Classification of a start address against the active table and run states (R26). -/
def classify (t : WindowTable) (a : Word) : Classification :=
  match windowIndices.find? fun w => covers (descriptorOf t.active w) a with
  | none => .passThrough
  | some w =>
    .staged w (descriptorOf t.active w).policy (descriptorOf t.active w).view (runStateOf t w)

/-! ### Tags (R72) -/

/-- The eight tags in ascending order. -/
def tags : List Tag :=
  [0, 1, 2, 3, 4, 5, 6, 7]

/-- A tag is free when no member holds it and it is not stale. -/
def tagFree (d : DPort) (t : Tag) : Bool :=
  !(d.inFlight.any fun m => m.tag == t) && !(d.stale.any fun x => x.tag == t)

/-- The lowest free tag. -/
def lowestFreeTag (d : DPort) : Option Tag :=
  tags.find? (tagFree d)

/-- The member of the in-flight list that holds a tag (R74). -/
def memberWithTag (d : DPort) (t : Tag) : Option InFlight :=
  d.inFlight.find? fun m => m.tag == t

/-! ### Reply codes (section 10.9) -/

/-- Reply codes of the management port. -/
inductive ReplyCode where
  | ok
  | nakCode
  | nakItem
  | nakRo
  | nakRange
  | nakLocked
  | nakArmed
  | crcError
  | truncated
  | held
  | alreadyHeld
  | notHeld
  | expired
  | empty
  | alreadyPending
  | notArmed
  | noRecord
  deriving DecidableEq, Repr

/-- Encoding of a reply code. -/
def replyByte : ReplyCode → Byte
  | .ok => 0x00#8
  | .nakCode => 0x01#8
  | .nakItem => 0x02#8
  | .nakRo => 0x03#8
  | .nakRange => 0x04#8
  | .nakLocked => 0x05#8
  | .nakArmed => 0x06#8
  | .crcError => 0x07#8
  | .truncated => 0x08#8
  | .held => 0x10#8
  | .alreadyHeld => 0x11#8
  | .notHeld => 0x12#8
  | .expired => 0x13#8
  | .empty => 0x14#8
  | .alreadyPending => 0x15#8
  | .notArmed => 0x16#8
  | .noRecord => 0x17#8

/-- A reply of the code byte alone (R177). -/
def codeReply (c : ReplyCode) : List Byte :=
  [replyByte c]

/-! ### Encodings of values (R190, R191) -/

/-- Code of a tracker state (tracker state item). -/
def trackerStateCode : TrackerState → Nat
  | .free => 0
  | .acquire => 1
  | .track => 2
  | .locked => 3
  | .holdover => 4

/-- Code of a GATE value. -/
def gateCode : Gate → Nat
  | .any => 0
  | .lockedOnly => 1
  | .lockedOrHoldover => 2

/-- The GATE value of a code. -/
def gateOfCode : Nat → Option Gate
  | 0 => some .any
  | 1 => some .lockedOnly
  | 2 => some .lockedOrHoldover
  | _ => none

/-- Code of a policy. -/
def policyCode : Policy → Nat
  | .stall => 0
  | .reject => 1
  | .spill => 2

/-- The policy of a code. -/
def policyOfCode : Nat → Option Policy
  | 0 => some .stall
  | 1 => some .reject
  | 2 => some .spill
  | _ => none

/-- Code of a view, in bit 8. -/
def viewCode : View → Nat
  | .latest => 0
  | .committed => 256

/-- Code of a LATE_SEAL value. -/
def lateSealCode : LateSeal → Nat
  | .immediate => 0
  | .nextPoint => 1

/-- 1 for a set flag. -/
def flagCode (b : Bool) : Nat :=
  if b then 1 else 0

/-- Code of a seal cause in a record (R191). -/
def sealCauseCode : SealCause → Byte
  | .sealPoint => 0x00#8
  | .shortFrame => 0x01#8
  | .owed => 0x02#8
  | .commitNow => 0x03#8

/-- Code of a record's outcome (R191). -/
def outcomeCode : RecordOutcome → Byte
  | .complete => 0x00#8
  | .partlyDropped => 0x01#8
  | .aborted => 0x02#8
  | .resetDiscarded => 0x03#8

/-- Value of the apply state and last outcome item: bit 0, bits 10:8 and bits 19:16 (R190). -/
def applyOutcomeCode (t : WindowTable) : Nat :=
  let armed := match t.applyState with | .idle => 0 | .armed => 1
  armed +
    match t.lastOutcome with
    | .noOutcome => 0
    | .applied => 1 * 256
    | .refusedLimit w => 2 * 256 + w.val * 65536
    | .refusedOverlap w => 3 * 256 + w.val * 65536
    | .cancelled => 4 * 256

/-- Value of an item of a window descriptor (R190). -/
def windowItemValue (d : Descriptor) : WindowField → Word
  | .base => d.base
  | .pages => BitVec.ofNat 32 d.pages
  | .policyView => BitVec.ofNat 32 (policyCode d.policy + viewCode d.view)
  | .enable => BitVec.ofNat 32 (flagCode d.enable)

/-- Value of a quantity of a timing set. -/
def timingValue (t : Timing) : TimingField → Nat
  | .period => t.period
  | .sealPhase => t.sealPhase
  | .deadline => t.deadline

/-- Value of a tracker parameter. -/
def trackerParamValue (t : Tracker) : TrackerParam → Nat
  | .tolNarrow => t.tolNarrow
  | .tolWide => t.tolWide
  | .nAcq => t.nAcq
  | .nLock => t.nLock
  | .holdoverLimit => t.holdoverLimit

/-- Value of the seal state item: bit 0, bits 15:8, and bits 16 to 18 (R190). -/
def sealStateCode (c : SealControl) : Nat :=
  (match c.hold with | .notHeld => 0 | .held => 1) + c.holdCount * 256 + flagCode c.expired * 65536 +
    flagCode c.owed * 131072 + flagCode c.commitNow * 262144

/-- Unread count of the ring (R142). -/
def unreadCount (ring : List RingEntry) : Nat :=
  ring.countP fun e => !e.isRead

/-- Value of an item as READ_ITEM returns it (R182, R190). -/
def itemValue (s : State) : Item → Word
  | .deviceId => Config.deviceId
  | .shadowWindow w f => windowItemValue (descriptorOf s.windows.shadow w) f
  | .activeWindow w f => windowItemValue (descriptorOf s.windows.active w) f
  | .faultSet => s.windows.faultSet.setWidth 32
  | .applyOutcome => BitVec.ofNat 32 (applyOutcomeCode s.windows)
  | .windowCounts w => BitVec.ofNat 32 (openCountOf s.store w * 65536 + sealedCountOf s.store w)
  | .shadowTiming q => BitVec.ofNat 32 (timingValue s.timer.shadow q)
  | .activeTiming q => BitVec.ofNat 32 (timingValue s.timer.active q)
  | .trackEn => BitVec.ofNat 32 (flagCode s.tracker.trackEn)
  | .trackerParam p => BitVec.ofNat 32 (trackerParamValue s.tracker p)
  | .gate => BitVec.ofNat 32 (gateCode s.tracker.gate)
  | .trackerState => BitVec.ofNat 32 (trackerStateCode s.tracker.state)
  | .goodAndLock => BitVec.ofNat 32 (s.tracker.goodCount * 256 + s.tracker.lockCount)
  | .lastInterval => BitVec.ofNat 32 s.tracker.lastInterval
  | .holdoverCount => BitVec.ofNat 32 s.tracker.holdoverCount
  | .frameNumber => s.timer.frame
  | .phase => BitVec.ofNat 32 s.timer.phase
  | .holdLimit => BitVec.ofNat 32 s.sealing.holdLimit
  | .lateSeal => BitVec.ofNat 32 (lateSealCode s.sealing.lateSeal)
  | .sealState => BitVec.ofNat 32 (sealStateCode s.sealing)
  | .openGen => s.store.openNumber
  | .openCount => BitVec.ofNat 32 (openCount s.store)
  | .sealedGen => match s.store.sealedGen with | none => 0#32 | some g => g.number
  | .sealedRemaining => BitVec.ofNat 32 (sealedRemaining s.store)
  | .freeSlots => BitVec.ofNat 32 (freeSlots s.store)
  | .stallLimit => BitVec.ofNat 32 s.uport.stallLimit
  | .dsTimeout => BitVec.ofNat 32 s.dport.dsTimeout
  | .retryLimit => BitVec.ofNat 32 s.dport.retryLimit
  | .drainShare => BitVec.ofNat 32 s.dport.drainShare
  | .causeSet => s.attention.causes.setWidth 32
  | .enableSet => s.attention.enabled.setWidth 32
  | .recordsUnread => BitVec.ofNat 32 (unreadCount s.ring)
  | .recordsHeld => BitVec.ofNat 32 s.ring.length

/-- The four bytes of a stamp's frame and the four of its phase. -/
def stampBytes (t : Stamp) : List Byte :=
  bytes32 t.frame ++ bytes32 (BitVec.ofNat 32 t.phase)

/-- The flags byte of a record: bit 0 late, bit 1 seal fields present (R191). -/
def recordFlags (r : CommitRecord) : Byte :=
  BitVec.ofNat 8 (flagCode r.late + 2 * flagCode r.sealFields.isSome)

/-- The 48 bytes of a record (R191). -/
def recordBytes (r : CommitRecord) : List Byte :=
  bytes32 r.number ++
  [outcomeCode r.outcome, recordFlags r,
   (match r.sealFields with | none => 0xFF#8 | some f => sealCauseCode f.cause),
   (match r.sealFields with | none => 0xFF#8 | some f => BitVec.ofNat 8 (trackerStateCode f.tracker))] ++
  bytes16 (BitVec.ofNat 16 r.entryCount) ++ bytes16 (BitVec.ofNat 16 r.byteCount) ++
  bytes16 (BitVec.ofNat 16 r.droppedCount) ++ bytes16 r.windowSet ++
  stampBytes r.firstWrite ++ stampBytes r.lastWrite ++ bytes32 (BitVec.ofNat 32 r.deferral) ++
  (match r.sealFields with
   | none => bytes32 0#32 ++ bytes32 0#32 ++ bytes32 0#32
   | some f => stampBytes f.stamp ++ bytes32 (BitVec.ofNat 32 f.drainTicks))

/-- Drain state code of a QUERY_WORD reply (R192). -/
def drainStateCode : Option SealedEntry → Byte
  | none => 0x00#8
  | some e => match e.drain with | .pending => 0x01#8 | .inFlight => 0x02#8

/-- The reply to QUERY_WORD (R23, R192). -/
def queryReply (st : Store) (a : Word) : List Byte :=
  [replyByte .ok,
   (match lookupOpen st (wordAddr a) with | none => 0x00#8 | some e => laneMask e.lanes),
   (match lookupSealed st (wordAddr a) with | none => 0x00#8 | some e => laneMask e.entry.lanes),
   drainStateCode (lookupSealed st (wordAddr a))] ++
  bytes32 st.openNumber ++
  bytes32 (match st.sealedGen with | none => 0#32 | some g => g.number)

end Sys2Proof.Machine
end

