-- ==== Sys2Proof/Machine/Flags.lean ====
section
/-! DEFINITION. Every flag and condition computed from the state: the cause positions and ATTNn (R155 to R157), the commit
gate (R118), the two permissions (R123), the status byte (R178), the interval classes (R107), the validity of a timing
set (R97) and of a window table (R34). -/

namespace Sys2Proof.Machine

/-! ### Attention (chapter 9) -/

/-- Position of a cause (section 10.9, cause positions). -/
def causePosition : Cause → Nat
  | .commitDone => 0
  | .commitLate => 1
  | .drainDrop => 2
  | .overrun => 3
  | .aborted => 4
  | .holdExpired => 5
  | .lockGained => 6
  | .lockLost => 7
  | .holdoverExhausted => 8
  | .tableApplied => 9
  | .tableRefused => 10
  | .timingRefused => 11
  | .writeRefused => 12
  | .stallTimeout => 13
  | .downstreamTimeout => 14
  | .warmReset => 15

/-- The set holding one cause. -/
def causeBit (c : Cause) : Half :=
  BitVec.ofNat 16 (2 ^ causePosition c)

/-- A cause is in a set. -/
def inCauseSet (set : Half) (c : Cause) : Bool :=
  set.getLsbD (causePosition c)

/-- The cause set and the enable set have a cause in common (R157, R163). -/
def attentionPending (a : Attention) : Bool :=
  a.causes &&& a.enabled != 0#16

/-- ATTNn is re-evaluated (R157). -/
def reevaluate (a : Attention) : Attention :=
  { a with asserted := attentionPending a }

/-- A raise (R156). -/
def raiseCause (c : Cause) (s : State) : State :=
  s.setAttention (reevaluate { s.attention with causes := s.attention.causes ||| causeBit c })

/-- The removal of causes by ACK_ATTN (R160). -/
def acknowledgeCauses (mask : Half) (s : State) : State :=
  s.setAttention (reevaluate { s.attention with causes := s.attention.causes &&& ~~~mask })

/-- The enable set becomes exactly the set named (R158). -/
def replaceEnableSet (set : Half) (s : State) : State :=
  s.setAttention (reevaluate { s.attention with enabled := set })

/-! ### Commit gate and permissions -/

/-- The commit gate is open in a tracker state under a GATE value (R118). -/
def gateOpenIn (g : Gate) (t : TrackerState) : Bool :=
  match g, t with
  | .any, _ => true
  | .lockedOnly, .locked => true
  | .lockedOnly, _ => false
  | .lockedOrHoldover, .locked => true
  | .lockedOrHoldover, .holdover => true
  | .lockedOrHoldover, _ => false

/-- The commit gate is open (R118). -/
def gateOpen (s : State) : Bool :=
  gateOpenIn s.tracker.gate s.tracker.state

/-- Command permission: no sealed generation, hold NONE, SRSTn high (R123). -/
def commandPermission (s : State) : Bool :=
  s.store.sealedGen.isNone && s.sealing.hold == .notHeld && s.srstn == .high

/-- Frame permission: command permission with the gate open (R123). -/
def framePermission (s : State) : Bool :=
  commandPermission s && gateOpen s

/-- The apply state is ARMED. -/
def applyArmed (s : State) : Bool :=
  s.windows.applyState == .armed

/-! ### Status byte (R178, section 10.9) -/

/-- The status byte formed from the state of the part. -/
def statusByte (s : State) : Byte :=
  BitVec.ofNat 8
    (flagCode (attentionPending s.attention) * 128 + flagCode (s.sealing.hold == .held) * 64 +
      flagCode (s.tracker.state == .locked) * 32 + flagCode s.store.sealedGen.isSome * 16 +
      flagCode (applyArmed s) * 8 + flagCode s.management.lastFrameError * 4 + flagCode (!s.uport.isOpen) * 2)

/-! ### Frame stamps (R94) -/

/-- The frame stamp of the present moment. -/
def frameStamp (s : State) : Stamp :=
  { frame := s.timer.frame, phase := s.timer.phase }

/-! ### Interval classes (R107) -/

/-- Classes of a measured interval. -/
inductive IntervalClass where
  | narrow
  | wide
  | early
  | lateEdge
  deriving DecidableEq, Repr

/-- Difference of two tick counts. -/
def difference (a b : Nat) : Nat :=
  if a ≤ b then b - a else a - b

/-- Class of an interval against PERIOD, TOL_NARROW and TOL_WIDE. -/
def classOf (i period tolNarrow tolWide : Nat) : IntervalClass :=
  if difference i period ≤ tolNarrow then .narrow
  else if difference i period ≤ tolWide then .wide
  else if i < period then .early
  else .lateEdge

/-- The interval classed NARROW or WIDE. -/
def goodClass (c : IntervalClass) : Bool :=
  c == .narrow || c == .wide

/-! ### Validity of a timing set (R97) -/

/-- The shadow set is valid at a boundary. -/
def timingValid (t : Timing) (trackEn : Bool) (tolWide : Nat) : Bool :=
  decide (256 ≤ t.period) && decide (t.period ≤ 16777215) && decide (t.sealPhase < t.period) &&
    decide (1 ≤ t.deadline) && decide (t.deadline ≤ t.period) &&
    (!trackEn || decide (2 * tolWide < t.period))

/-! ### Validity of a window table (R34) -/

/-- An enabled window breaks the limit condition. -/
def breaksLimit (d : Descriptor) : Bool :=
  d.enable && decide (Config.addressLimit < windowEnd d)

/-- Two enabled windows share an address: "the base of each is below the end of the other". -/
def overlaps (d e : Descriptor) : Bool :=
  d.enable && e.enable && decide (d.base.toNat < windowEnd e) && decide (e.base.toNat < windowEnd d)

/-- A window fails the validation. -/
def windowFails (table : List Descriptor) (w : Window) : Bool :=
  breaksLimit (descriptorOf table w) ||
    windowIndices.any fun v => v != w && overlaps (descriptorOf table w) (descriptorOf table v)

/-- The lowest index that fails, none where the table is valid. -/
def failingWindow (table : List Descriptor) : Option Window :=
  windowIndices.find? (windowFails table)

end Sys2Proof.Machine
end

