-- ==== Sys2Proof/Machine/Ops.lean ====
section
/-! DEFINITION. The named operations that the meanings share: staging, sealing, applying, retiring and discarding a
generation, the records, the taking attempt, the boundary of a frame, permission return, and the execution of a management
command. Each is one event of the block that owns the state, by the rule its docstring cites. -/

namespace Sys2Proof.Machine

/-! ### Commit Record Ring (chapter 8) -/

/-- An append: at the tail, unread; the oldest record leaves a full ring (R143, R144). -/
def appendRecord (r : CommitRecord) (s : State) : State :=
  s.setRing ((if Config.ringSize ≤ s.ring.length then s.ring.drop 1 else s.ring) ++
    [{ record := r, isRead := false }])

/-- The oldest unread record is marked read and returned (R150). -/
def readOldest : List RingEntry → Option (CommitRecord × List RingEntry)
  | [] => none
  | e :: rest =>
    if e.isRead then (readOldest rest).map fun p => (p.1, e :: p.2)
    else some (e.record, { e with isRead := true } :: rest)

/-! ### Staging (section 1.3) -/

/-- A word coalesces into the open entry of its address; role, window and position stay (R5). -/
def coalesceWord (es : List Entry) (p : Word × Lanes) : List Entry :=
  es.map fun e => if e.addr == p.1 then { e with lanes := overlay p.2 e.lanes } else e

/-- A word coalesces, or is allocated in a free slot at the next creation position (R5, R6). -/
def stageWord (w : Window) (es : List Entry) (p : Word × Lanes) : List Entry :=
  if es.any fun e => e.addr == p.1 then coalesceWord es p
  else es ++ [{ addr := p.1, lanes := p.2, window := w, position := es.length + 1 }]

/-- The words of a request in ascending address order (R6). -/
def stageWords (w : Window) (es : List Entry) (ps : List (Word × Lanes)) : List Entry :=
  ps.foldl (stageWord w) es

/-- A write whose need is not above the free slot count is staged whole (R7). The window joins the window set when a word
is allocated (R6); a request all of whose masks are empty changes nothing. -/
def stageWhole (w : Window) (r : Request) (stamp : Stamp) (st : Store) : Store :=
  if (carryingWords r).isEmpty then st
  else
    let es := stageWords w (openEntries st) (carryingWords r)
    { st with
      openBody := some
        { entries := es
          windowSet :=
            if es.length = openCount st then openWindowSet st else openWindowSet st ||| windowBit w
          firstWrite := match st.openBody with | none => stamp | some b => b.firstWrite
          lastWrite := stamp
          deferral := match st.openBody with | none => 0 | some b => b.deferral } }

/-- The words of a coalesce-only write that have no open entry, in ascending order (R8). -/
def remainingWords (r : Request) (st : Store) : List (Word × Lanes) :=
  (carryingWords r).filter fun p => !hasOpen st p.1

/-- A coalesce-only write: every word with an open entry coalesces, nothing is allocated, and the last-write stamp is set
if any word coalesced (R8). -/
def coalesceOnly (r : Request) (stamp : Stamp) (st : Store) : Store :=
  let hits := (carryingWords r).filter fun p => hasOpen st p.1
  match st.openBody with
  | none => st
  | some b =>
    if hits.isEmpty then st
    else { st with openBody := some { b with entries := hits.foldl coalesceWord b.entries, lastWrite := stamp } }

/-- Words before the first and after the last that carry a byte are left out. -/
def trimWords (ps : List (Word × Lanes)) : List (Word × Lanes) :=
  let front := ps.dropWhile fun p => !carries p.2
  (front.reverse.dropWhile fun p => !carries p.2).reverse

/-- The spill write of a request: from the lowest remaining word to the highest, a word between them that does not remain
carried with an empty mask; from a sub-word write, that same write (R55). -/
def spillRequest (r : Request) (remaining : List (Word × Lanes)) : Request :=
  match r.len with
  | .sub _ => r
  | .words _ =>
    let ps := trimWords ((writeWords r).map fun p =>
      if remaining.any fun q => q.1 == p.1 then p else (p.1, emptyLanes))
    { addr := match ps with | [] => r.addr | p :: _ => p.1
      len := .words ps.length
      payload := .write (ps.map fun p => p.2) }

/-! ### Apply (section 2.5) -/

/-- The apply: the shadow table is validated as a whole, and copied or refused (R34 to R36). -/
def performApply (s : State) : State :=
  match failingWindow s.windows.shadow with
  | none =>
    raiseCause .tableApplied (s.setWindows
      { s.windows with active := s.windows.shadow, applyState := .idle, lastOutcome := .applied })
  | some w =>
    raiseCause .tableRefused (s.setWindows
      { s.windows with
        applyState := .idle
        lastOutcome :=
          if breaksLimit (descriptorOf s.windows.shadow w) then .refusedLimit w else .refusedOverlap w })

/-! ### Seals (section 7.3) -/

/-- The sealed generation that an open generation becomes (R10, R11). -/
def sealedFrom (cause : SealCause) (stamp : Stamp) (s : State) (b : OpenBody) : SealedGen :=
  { number := s.store.openNumber
    entries := b.entries.map fun e => { entry := e, drain := .pending, retries := 0 }
    entryCount := b.entries.length
    byteCount := bytesOf b.entries
    windowSet := b.windowSet
    firstWrite := b.firstWrite
    lastWrite := b.lastWrite
    deferral := b.deferral
    stamp := stamp
    cause := cause
    sealTime := s.now
    deadline := s.now + s.timer.active.deadline
    tracker := s.tracker.state
    late := false
    doneCount := 0
    droppedCount := 0 }

/-- Store and drain steps of a seal: the open generation becomes the sealed one, the next opens, and the drain begins with
its cursor at 1 and urgent mode off (R10, R63). -/
def performSeal (cause : SealCause) (stamp : Stamp) (s : State) : State :=
  match s.store.openBody with
  | none => s
  | some b =>
    (s.setStore
      { openNumber := s.store.openNumber + 1#32, openBody := none,
        sealedGen := some (sealedFrom cause stamp s b) }).setDrain { cursor := some 1, urgent := false }

/-- The owed-seal flag is cleared. -/
def clearOwed (s : State) : State :=
  s.setSealing { s.sealing with owed := false }

/-- Flags step of a seal: commit-now is cleared, and the owed-seal flag too, except at a COMMIT_NOW seal while an apply is
armed (R124 step 4). -/
def clearSealFlags (cause : SealCause) (s : State) : State :=
  s.setSealing
    { s.sealing with
      commitNow := false
      owed := if cause == .commitNow && applyArmed s then s.sealing.owed else false }

/-- A seal is taken: store, drain, apply where it rides, flags, in this order (R124). -/
def takeSeal (cause : SealCause) (stamp : Stamp) (s : State) : State :=
  let sealedState := performSeal cause stamp s
  let applied :=
    if cause != .commitNow && applyArmed sealedState then performApply sealedState else sealedState
  clearSealFlags cause applied

/-- An armed apply with nothing sealed, then the owed-seal flag is cleared (R125, R127). -/
def takeEmptyPoint (s : State) : State :=
  clearOwed (if applyArmed s then performApply s else s)

/-- The deferral count of a non-empty open generation increases by 1, stopping at FFFFFFFFh (R125). -/
def countDeferral (st : Store) : Store :=
  { st with
    openBody := st.openBody.map fun b => { b with deferral := min (b.deferral + 1) Config.countMax } }

/-- A refused seal point (R125): owed-seal flag, deferral count, OVERRUN. -/
def refuseSealPoint (s : State) : State :=
  let marked :=
    if !openEmpty s.store || applyArmed s then s.setSealing { s.sealing with owed := true } else s
  let counted := if !openEmpty s.store then marked.setStore (countDeferral marked.store) else marked
  if s.store.sealedGen.isSome then raiseCause .overrun counted else counted

/-- A seal point offered by the Frame Timer is judged under frame permission (R125). -/
def offerSealPoint (cause : SealCause) (stamp : Stamp) (s : State) : State :=
  if framePermission s then
    if openEmpty s.store then takeEmptyPoint s else takeSeal cause stamp s
  else refuseSealPoint s

/-- The owed seal is taken, with the frame stamp of its own moment (R127). -/
def takeOwedSeal (s : State) : State :=
  if openEmpty s.store then takeEmptyPoint s else takeSeal .owed (frameStamp s) s

/-- The commit-now flag is taken (R131). -/
def takeCommitNow (s : State) : State :=
  if openEmpty s.store then s.setSealing { s.sealing with commitNow := false }
  else takeSeal .commitNow (frameStamp s) s

/-- Step 1 of R129. -/
def returnOwed (s : State) : State :=
  if s.sealing.lateSeal == .immediate && s.sealing.owed && framePermission s then takeOwedSeal s else s

/-- Step 2 of R129. -/
def returnCommitNow (s : State) : State :=
  if s.sealing.commitNow && commandPermission s then takeCommitNow s else s

/-- A permission-return moment: the owed seal, then the commit-now flag (R129). -/
def permissionReturn (s : State) : State :=
  returnCommitNow (returnOwed s)

/-! ### Discarding the open generation (section 1.5) -/

/-- The record of a discarded open generation (R147). -/
def discardRecord (outcome : RecordOutcome) (number : Word) (b : OpenBody) : CommitRecord :=
  { number := number, outcome := outcome, late := false, entryCount := b.entries.length,
    byteCount := bytesOf b.entries, droppedCount := 0, windowSet := b.windowSet, firstWrite := b.firstWrite,
    lastWrite := b.lastWrite, deferral := b.deferral, sealFields := none }

/-- A non-empty open generation is discarded with a record, and the next opens empty (R15, R16). -/
def discardOpen (outcome : RecordOutcome) (s : State) : State :=
  match s.store.openBody with
  | none => s
  | some b =>
    appendRecord (discardRecord outcome s.store.openNumber b)
      (s.setStore { s.store with openNumber := s.store.openNumber + 1#32, openBody := none })

/-! ### Taking (chapter 3) -/

/-- The URQ with the entry of one serial changed. -/
def updateUrq (serial : Nat) (f : UrqEntry → UrqEntry) (urq : List UrqEntry) : List UrqEntry :=
  urq.map fun e => if e.serial == serial then f e else e

/-- The taking head: the oldest WAITING request (R46). -/
def takingHead (u : UPort) : Option UrqEntry :=
  u.urq.find? fun e => e.phase == .waiting

/-- A request is answered at its taking; a hold it was in ends (R51 to R53, R56, R58). -/
def answerAtTaking (serial : Nat) (c : Classification) (snap : Option (List (Option Byte))) (a : Answer)
    (s : State) : State :=
  s.setUport
    { s.uport with
      urq := updateUrq serial
        (fun e => { e with
          phase := .answeredReady, classification := some c, snapshot := snap, response := some a }) s.uport.urq
      stall := none
      spillHeld := false }

/-- A request becomes FORWARDED and joins the downstream issue order; a hold it was in ends (R48, R53, R55, R56, R58). -/
def forwardAtTaking (serial : Nat) (c : Classification) (snap : Option (List (Option Byte))) (f : Forward)
    (s : State) : State :=
  s.setUport
    { s.uport with
      urq := updateUrq serial
        (fun e => { e with phase := .forwarded, classification := some c, snapshot := snap }) s.uport.urq
      issueOrder := s.uport.issueOrder ++ [f]
      stall := none
      spillHeld := false }

/-- A staged write answered ERROR with WRITE_REFUSED (R51 REJECT, R52). -/
def refuseWrite (e : UrqEntry) (c : Classification) (s : State) : State :=
  raiseCause .writeRefused (answerAtTaking e.serial c none .error s)

/-- A write stalls: its timer starts from STALL_LIMIT, or runs on from the first start of the same stall (R51, R53,
R186). -/
def stallHead (s : State) : State :=
  match s.uport.stall with
  | some _ => s
  | none =>
    s.setUport
      { s.uport with
        stall := some
          { due :=
              if s.uport.stallLimit = 0 then none
              else some (s.now + s.uport.stallLimit * Config.ticksPerUnit) }
        spillHeld := false }

/-- A write under SPILL that does not fit: coalesce-only, then answered OK or forwarded as a spill write (R55). -/
def spillHead (e : UrqEntry) (c : Classification) (s : State) : State :=
  let remaining := remainingWords e.request s.store
  let coalesced := s.setStore (coalesceOnly e.request (frameStamp s) s.store)
  if remaining.isEmpty then answerAtTaking e.serial c none (.ok []) coalesced
  else
    forwardAtTaking e.serial c none
      { origin := .spill e.serial, request := spillRequest e.request remaining } coalesced

/-- The full-store policy of a write that is not stageable (R51). -/
def notStageable (e : UrqEntry) (c : Classification) (p : Policy) (s : State) : State :=
  match p with
  | .stall => stallHead s
  | .reject => refuseWrite e c s
  | .spill => spillHead e c s

/-- A WRITE classified staged (R51, R52). -/
def takeStagedWrite (e : UrqEntry) (w : Window) (p : Policy) (v : View) (run : RunState) (s : State) : State :=
  let c := Classification.staged w p v run
  match run with
  | .faulted => refuseWrite e c s
  | .normal =>
    if need s.store e.request ≤ freeSlots s.store then
      answerAtTaking e.serial c none (.ok []) (s.setStore (stageWhole w e.request (frameStamp s) s.store))
    else notStageable e c p s

/-- A READ classified staged: answered from its snapshot, or forwarded (R58). -/
def takeStagedRead (e : UrqEntry) (w : Window) (p : Policy) (v : View) (run : RunState) (s : State) : State :=
  let c := Classification.staged w p v run
  let snap := snapshot s.store v e.request
  match allSupplied snap with
  | some data => answerAtTaking e.serial c (some snap) (.ok data) s
  | none => forwardAtTaking e.serial c (some snap) { origin := .read e.serial, request := e.request } s

/-- A request classified pass-through is forwarded as received (R48). -/
def takePassThrough (e : UrqEntry) (s : State) : State :=
  match e.request.payload with
  | .read => forwardAtTaking e.serial .passThrough none { origin := .read e.serial, request := e.request } s
  | .write _ => forwardAtTaking e.serial .passThrough none { origin := .write e.serial, request := e.request } s

/-- One taking attempt: classification anew, then the action for it (R27, R46, R53). -/
def attemptTaking (e : UrqEntry) (s : State) : State :=
  match classify s.windows e.request.addr with
  | .passThrough => takePassThrough e s
  | .staged w p v run =>
    match e.request.payload with
    | .read => takeStagedRead e w p v run s
    | .write _ => takeStagedWrite e w p v run s

/-- A slot-free report: a stalled write is offered again (R14, R53). -/
def reportFreedSlots (s : State) : State :=
  match s.uport.stall with
  | none => s
  | some _ =>
    match takingHead s.uport with
    | none => s
    | some e => attemptTaking e s

/-- The forwarded request is an unissued spill write. -/
def isSpill (f : Forward) : Bool :=
  match f.origin with
  | .spill _ => true
  | .read _ => false
  | .write _ => false
  | .drain _ => false

/-- The request is classified staged at this moment. -/
def classifiedStaged (t : WindowTable) (a : Word) : Bool :=
  match classify t a with
  | .passThrough => false
  | .staged _ _ _ _ => true

/-- The spill-ordered hold: a staged request that shares a word with the remaining words of an unissued spill write
(R46, R56). -/
def spillOrderedHold (s : State) (e : UrqEntry) : Bool :=
  classifiedStaged s.windows e.request.addr &&
    s.uport.issueOrder.any fun f => isSpill f && sharesWord e.request f.request

/-- The issue of a spill write: a head that an attempt has found held by it, and that no other spill write holds, is taken
at the issue (R56). A head that an apply has since made pass-through no spill write holds (assumption log 26). -/
def takeHeldHead (s : State) : State :=
  match takingHead s.uport with
  | none => s
  | some e => if s.uport.spillHeld && !spillOrderedHold s e then attemptTaking e s else s

/-! ### Reopening of the U-port (R61) -/

/-- The port reopens when SRSTn is high and no sealed generation exists, and WARM_RESET is raised. -/
def reopenPort (s : State) : State :=
  if !s.uport.isOpen && s.srstn == .high && s.store.sealedGen.isNone then
    raiseCause .warmReset (s.setUport { s.uport with isOpen := true })
  else s

/-! ### Ends of drain writes (sections 4.1 and 4.3) -/

/-- The record of a retired generation (R70, R146). -/
def retirementRecord (g : SealedGen) (now : Nat) : CommitRecord :=
  { number := g.number
    outcome := if g.droppedCount = 0 then .complete else .partlyDropped
    late := g.late
    entryCount := g.entryCount
    byteCount := g.byteCount
    droppedCount := g.droppedCount
    windowSet := g.windowSet
    firstWrite := g.firstWrite
    lastWrite := g.lastWrite
    deferral := g.deferral
    sealFields := some
      { cause := g.cause, stamp := g.stamp, tracker := g.tracker,
        drainTicks := min (now - g.sealTime) Config.countMax } }

/-- The retirement proper: record, COMMIT_DONE, the generation ceases to exist, the engine stops (R70). -/
def endGeneration (g : SealedGen) (s : State) : State :=
  ((raiseCause .commitDone (appendRecord (retirementRecord g s.now) s)).setStore
    { s.store with sealedGen := none }).setDrain { cursor := none, urgent := false }

/-- The retirement with what follows it in the same event: the Seal Controller's permission-return moment, then the
U-port's reopening (R70; the order is assumption log 5). -/
def retire (g : SealedGen) (s : State) : State :=
  reopenPort (permissionReturn (endGeneration g s))

/-- The generation retires when its sealed remaining count is 0 (R13, R70). -/
def retireIfDrained (s : State) : State :=
  match s.store.sealedGen with
  | none => s
  | some g => if g.entries.isEmpty then retire g s else s

/-- The sealed entry in flight at a creation position. -/
def inFlightEntry (g : SealedGen) (position : Nat) : Option SealedEntry :=
  g.entries.find? fun e => e.entry.position == position && e.drain == .inFlight

/-- The sealed entries without the one at a creation position. -/
def withoutEntry (es : List SealedEntry) (position : Nat) : List SealedEntry :=
  es.filter fun e => e.entry.position != position

/-- The sealed entries with the one at a creation position changed. -/
def changeEntry (position : Nat) (f : SealedEntry → SealedEntry) (es : List SealedEntry) : List SealedEntry :=
  es.map fun e => if e.entry.position == position then f e else e

/-- The store with another sealed generation. -/
def withSealed (st : Store) (g : SealedGen) : Store :=
  { st with sealedGen := some g }

/-- Done: the entry leaves its slot and the drain-done count increases; the freeing is reported, then the generation
retires if nothing is left (R13, R66). -/
def drainDone (position : Nat) (s : State) : State :=
  match s.store.sealedGen with
  | none => s
  | some g =>
    match inFlightEntry g position with
    | none => s
    | some _ =>
      retireIfDrained (reportFreedSlots (s.setStore (withSealed s.store
        { g with entries := withoutEntry g.entries position, doneCount := g.doneCount + 1 })))

/-- The run state of an index becomes FAULTED (R39). -/
def faultWindow (w : Window) (s : State) : State :=
  s.setWindows { s.windows with faultSet := s.windows.faultSet ||| windowBit w }

/-- Dropped: the entry leaves its slot, the dropped count increases, its window is FAULTED and DRAIN_DROP raised; the
freeing is reported, then the generation retires if nothing is left (R13, R39, R67). -/
def drainDropped (g : SealedGen) (e : SealedEntry) (s : State) : State :=
  let removed := s.setStore (withSealed s.store
    { g with entries := withoutEntry g.entries e.entry.position, droppedCount := g.droppedCount + 1 })
  retireIfDrained (reportFreedSlots (raiseCause .drainDrop (faultWindow e.entry.window removed)))

/-- A drain write has failed: a retry while retries used is below RETRY_LIMIT, else a drop (R67). -/
def drainFailed (position : Nat) (s : State) : State :=
  match s.store.sealedGen with
  | none => s
  | some g =>
    match inFlightEntry g position with
    | none => s
    | some e =>
      if e.retries < s.dport.retryLimit then
        s.setStore (withSealed s.store
          { g with
            entries := changeEntry position
              (fun x => { x with drain := .pending, retries := x.retries + 1 }) g.entries })
      else drainDropped g e s

/-! ### Ends of upstream requests (R50, R57, R58) -/

/-- The upstream response that a downstream outcome makes for a URQ entry. -/
def upstreamAnswer (e : UrqEntry) (a : Answer) : Answer :=
  match a with
  | .error => .error
  | .ok data =>
    match e.request.payload with
    | .write _ => .ok []
    | .read =>
      match e.snapshot with
      | none => .ok data
      | some snap => .ok (mergeSnapshot snap data)

/-- The URQ entry of a forwarded request becomes ANSWERED-READY with its response. -/
def answerUpstream (serial : Nat) (a : Answer) (s : State) : State :=
  s.setUport
    { s.uport with
      urq := updateUrq serial
        (fun e => { e with phase := .answeredReady, response := some (upstreamAnswer e a) }) s.uport.urq }

/-- The outcome of a downstream request goes to its origin (R74, R75). -/
def deliver (o : Origin) (a : Answer) (s : State) : State :=
  match o with
  | .read serial => answerUpstream serial a s
  | .write serial => answerUpstream serial a s
  | .spill serial => answerUpstream serial a s
  | .drain position =>
    match a with
    | .ok _ => drainDone position s
    | .error => drainFailed position s

/-- A member leaves the in-flight list. -/
def removeMember (t : Tag) (s : State) : State :=
  s.setDport { s.dport with inFlight := s.dport.inFlight.filter fun m => m.tag != t }

/-- A tag leaves the stale tag set (R76). -/
def removeStale (t : Tag) (s : State) : State :=
  s.setDport { s.dport with stale := s.dport.stale.filter fun x => x.tag != t }

/-! ### Arbiter and issue (sections 4.4 to 4.6) -/

/-- The spill hazard: a spill write one of whose remaining words has a sealed entry held in the store (R82). -/
def hazardHeld (st : Store) (f : Forward) : Bool :=
  isSpill f && (carryingWords f.request).any fun p => hasSealed st p.1

/-- What the pass-through issuer offers: the oldest unissued request, unless its hazard holds it (R49). -/
def passOffer (s : State) : Option Forward :=
  match s.uport.issueOrder with
  | [] => none
  | f :: _ => if hazardHeld s.store f then none else some f

/-- The entry due for retry with the lowest creation position; the list stands in creation order (R64). -/
def retryOffer (g : SealedGen) : Option SealedEntry :=
  g.entries.find? fun e => e.drain == .pending && decide (0 < e.retries)

/-- The entry that the cursor names (R64). -/
def cursorOffer (g : SealedGen) (cursor : Option Nat) : Option SealedEntry :=
  match cursor with
  | none => none
  | some c => g.entries.find? fun e => e.entry.position == c && e.drain == .pending

/-- The drain offer (R64). -/
def drainOffer (s : State) : Option SealedEntry :=
  match s.store.sealedGen with
  | none => none
  | some g =>
    match retryOffer g with
    | some e => some e
    | none => cursorOffer g s.drain.cursor

/-- The in-flight list and the requests sent, with one more issued request (R72, R73). -/
def issueOn (tag : Tag) (o : Origin) (r : Request) (share : Nat) (now : Nat) (d : DPort) : DPort :=
  { d with
    inFlight := d.inFlight ++
      [{ tag := tag, origin := o, issueTime := now, expiry := now + d.dsTimeout * Config.ticksPerUnit,
         orphan := false }]
    shareCounter := share
    sent := d.sent ++ [{ tag := tag, request := r }] }

/-- The issue of the oldest forwarded request: it leaves the list of unissued requests, and the share counter becomes 0
(R49, R73, R79). -/
def issueForward (tag : Tag) (f : Forward) (s : State) : State :=
  (s.setDport (issueOn tag f.origin f.request 0 s.now s.dport)).setUport
    { s.uport with issueOrder := s.uport.issueOrder.drop 1 }

/-- A pass-through grant: the offered request is issued, and a request held by it alone is taken (R49, R56). -/
def grantPass (tag : Tag) (f : Forward) (s : State) : State :=
  if isSpill f then takeHeldHead (issueForward tag f s) else issueForward tag f s

/-- The downstream write of an entry: one word at its address with its lanes (R65). -/
def drainRequest (e : SealedEntry) : Request :=
  { addr := e.entry.addr, len := .words 1, payload := .write [e.entry.lanes] }

/-- The sealed generation with the entry at a creation position IN_FLIGHT (R12, Issue). -/
def issueEntry (position : Nat) (g : SealedGen) : SealedGen :=
  { g with entries := changeEntry position (fun x => { x with drain := .inFlight }) g.entries }

/-- The cursor advances at the first issue of the entry it names (R64, R65). -/
def advanceCursor (position : Nat) (cursor : Option Nat) : Option Nat :=
  if cursor = some position then some (position + 1) else cursor

/-- A drain grant: the offered entry is issued and becomes IN_FLIGHT; the share counter increases, stopping at 15
(R65, R73, R79). -/
def grantDrain (tag : Tag) (e : SealedEntry) (s : State) : State :=
  ((s.setDport (issueOn tag (.drain e.entry.position) (drainRequest e)
      (min (s.dport.shareCounter + 1) Config.shareMax) s.now s.dport)).setStore
    { s.store with sealedGen := s.store.sealedGen.map (issueEntry e.entry.position) }).setDrain
    { s.drain with cursor := advanceCursor e.entry.position s.drain.cursor }

/-- With both requesters waiting the drain is granted in urgent mode (R80), and otherwise while the share counter is below
DRAIN_SHARE (R79). -/
def drainWins (s : State) : Bool :=
  s.drain.urgent || decide (s.dport.shareCounter < s.dport.drainShare)

/-- A grant, where a tag is free and a requester waits (R78). -/
def arbitrate (s : State) : State :=
  match lowestFreeTag s.dport with
  | none => s
  | some t =>
    match passOffer s, drainOffer s with
    | none, none => s
    | some f, none => grantPass t f s
    | none, some e => grantDrain t e s
    | some f, some e => if drainWins s then grantDrain t e s else grantPass t f s

/-- The grant's conditions hold (R78). -/
def canGrant (s : State) : Bool :=
  (lowestFreeTag s.dport).isSome && ((passOffer s).isSome || (drainOffer s).isSome)

/-! ### Frame boundaries (section 5.2) -/

/-- Step 1: the seal point of a frame that has not offered it. Where the phase stands at SEAL_PHASE the point is that of
R91 and comes first; else the frame is short (R87, R91, R92). -/
def lateSealPoint (s : State) : State :=
  if s.timer.offered then s
  else if s.timer.phase = s.timer.active.sealPhase then offerSealPoint .sealPoint (frameStamp s) s
  else offerSealPoint .shortFrame (frameStamp s) s

/-- Step 2: the new frame (R87). -/
def newFrame (s : State) : State :=
  s.setTimer { s.timer with frame := s.timer.frame + 1#32, phase := 0, offered := false }

/-- Step 3: the transfer check (R96, R97). -/
def transferCheck (s : State) : State :=
  if s.timer.shadow = s.timer.active then s
  else if timingValid s.timer.shadow s.tracker.trackEn s.tracker.tolWide then
    s.setTimer { s.timer with active := s.timer.shadow, refusalMark := false }
  else if s.timer.refusalMark then s
  else raiseCause .timingRefused (s.setTimer { s.timer with refusalMark := true })

/-- The hold expires: hold NONE, the expired flag, HOLD_EXPIRED, and a permission-return moment (R133). -/
def expireHold (s : State) : State :=
  permissionReturn (raiseCause .holdExpired
    (s.setSealing { s.sealing with hold := .notHeld, expired := true }))

/-- Step 4: the report to the Seal Controller, which counts hold frames (R87, R133). -/
def reportBoundary (s : State) : State :=
  if s.sealing.hold = .held then
    let counted := s.setSealing { s.sealing with holdCount := s.sealing.holdCount + 1 }
    if s.sealing.holdLimit ≤ s.sealing.holdCount + 1 then expireHold counted else counted
  else s

/-- Step 5: the seal point of a frame whose SEAL_PHASE is 0 (R87, R91). -/
def earlySealPoint (s : State) : State :=
  if s.timer.active.sealPhase = 0 then
    (offerSealPoint .sealPoint (frameStamp s) s).setTimer { s.timer with offered := true }
  else s

/-- A frame boundary: the five steps in order, one event (R87). -/
def takeBoundary (s : State) : State :=
  earlySealPoint (reportBoundary (transferCheck (newFrame (lateSealPoint s))))

/-- A realignment: the phase becomes 0, and if SEAL_PHASE is 0 and the flag clear the seal point is offered there
(R90). -/
def realign (s : State) : State :=
  let moved := s.setTimer { s.timer with phase := 0 }
  if moved.timer.active.sealPhase = 0 && !moved.timer.offered then
    (offerSealPoint .sealPoint (frameStamp moved) moved).setTimer { moved.timer with offered := true }
  else moved

/-! ### Tracker events (R108) -/

/-- Raises of several causes, in order. -/
def raiseAll (cs : List Cause) (s : State) : State :=
  cs.foldl (fun acc c => raiseCause c acc) s

/-- Steps 3 to 5 of a tracker event, and a write of GATE: the tracker changes, its causes are raised, and an opening of
the commit gate is a permission-return moment (R108, R118). -/
def changeTracker (t : Tracker) (causes : List Cause) (s : State) : State :=
  let changed := raiseAll causes (s.setTracker t)
  if !gateOpen s && gateOpen changed then permissionReturn changed else changed

/-- LOCK_LOST where the state left is LOCKED (R106, R113, R114). -/
def lockLostFrom (t : TrackerState) : List Cause :=
  if t == .locked then [.lockLost] else []

/-- Step 1: a measured interval becomes the last interval, and Plast if its class is NARROW or WIDE (R107). -/
def measureInterval (i : Nat) (c : IntervalClass) (s : State) : State :=
  s.setTracker
    { s.tracker with
      lastInterval := min i Config.countMax
      plast := if goodClass c then i else s.tracker.plast }

/-! ### Management commands (R172, R179, R180) -/

/-- The receiver awaits the CRC byte of the frame of this command: code and parameters stand in the buffer (R172). -/
def awaitsCommand (s : State) (i : Instr) : Bool :=
  s.management.rx == .awaitCrc && commandBytes i == some s.management.buffer

/-- A complete byte is clocked, and one byte of the outgoing stream with it (R176). -/
def clockByte (m : Management) : Management :=
  { m with clocked := m.clocked + 1 }

/-- The byte that MDO sends next: none for high impedance, 00h after the stream (R169, R176). -/
def mdoByte (m : Management) : Option Byte :=
  m.outgoing.map fun bytes => bytes.getD m.clocked 0x00#8

/-- The reply of an executed command is placed in the slot, and the receiver enters DONE (R172). -/
def finishCommand (reply : Option (List Byte)) (s : State) : State :=
  s.setManagement { clockByte s.management with slot := reply, rx := .done }

/-- The correct CRC byte of a command's frame arrives: the command is executed at this event (R172, R179). Where the
receiver does not await it, the event does not occur (assumption log 3). -/
def runCommand (i : Instr) (act : State → State × Option (List Byte)) (s : State) :
    Host.Outcome State Fault Refusal :=
  if awaitsCommand s i then .next (finishCommand (act s).2 (act s).1) else .next s

end Sys2Proof.Machine
end

