-- ==== Sys2Proof/Machine/Commands.lean ====
section
/-! DEFINITION. The meanings of the other management commands: NOP, READ_RECORD, ACK_ATTN, HOLD, RELEASE, COMMIT_NOW,
ABORT_OPEN, APPLY_TABLE, CANCEL_APPLY, CLEAR_FAULT and QUERY_WORD. Each command function answers the state and the reply;
its row runs it at the event of R172. -/

namespace Sys2Proof.Machine

/-- A state with a reply of the code alone. -/
def reply (s : State) (c : ReplyCode) : State × Option (List Byte) :=
  (s, some (codeReply c))

/-- NOP (R181): nothing changes, and no reply is made. -/
def execNop (s : State) : Host.Outcome State Fault Refusal :=
  runCommand .nop (fun t => (t, none)) s

/-- The oldest unread record is marked read and returned, or NO_RECORD (R150). -/
def readRecord (s : State) : State × Option (List Byte) :=
  match readOldest s.ring with
  | none => reply s .noRecord
  | some (r, ring) => (s.setRing ring, some (replyByte .ok :: recordBytes r))

/-- READ_RECORD (R150, R191). -/
def execReadRecord (s : State) : Host.Outcome State Fault Refusal :=
  runCommand .readRecord readRecord s

/-- The causes named are removed, or NAK_RANGE where the mask names a position not assigned (R160). -/
def ackAttention (mask : Word) (s : State) : State × Option (List Byte) :=
  if mask.toNat < 65536 then reply (acknowledgeCauses (mask.setWidth 16) s) .ok else reply s .nakRange

/-- ACK_ATTN (R160). -/
def execAckAttn (mask : Word) (s : State) : Host.Outcome State Fault Refusal :=
  runCommand (.ackAttn mask) (ackAttention mask) s

/-- A hold begins, or ALREADY_HELD (R132). -/
def holdSeals (s : State) : State × Option (List Byte) :=
  match s.sealing.hold with
  | .held => reply s .alreadyHeld
  | .notHeld => reply (s.setSealing { s.sealing with hold := .held, holdCount := 0, expired := false }) .ok

/-- HOLD (R132). -/
def execHold (s : State) : Host.Outcome State Fault Refusal :=
  runCommand .hold holdSeals s

/-- A hold ends as a permission-return moment, or EXPIRED, or NOT_HELD (R134). -/
def releaseSeals (s : State) : State × Option (List Byte) :=
  match s.sealing.hold with
  | .held => reply (permissionReturn (s.setSealing { s.sealing with hold := .notHeld, holdCount := 0 })) .ok
  | .notHeld =>
    if s.sealing.expired then reply (s.setSealing { s.sealing with expired := false }) .expired
    else reply s .notHeld

/-- RELEASE (R134). -/
def execRelease (s : State) : Host.Outcome State Fault Refusal :=
  runCommand .release releaseSeals s

/-- The commit-now flag is set, and taken at once under command permission; or HELD, or ALREADY_PENDING (R130, R131). -/
def commitNow (s : State) : State × Option (List Byte) :=
  if s.sealing.hold = .held then reply s .held
  else if s.sealing.commitNow then reply s .alreadyPending
  else reply (returnCommitNow (s.setSealing { s.sealing with commitNow := true })) .ok

/-- COMMIT_NOW (R130). -/
def execCommitNow (s : State) : Host.Outcome State Fault Refusal :=
  runCommand .commitNow commitNow s

/-- The open generation is discarded: record, ABORTED, owed flag, reply, slot-free report; or EMPTY (R135). -/
def abortOpen (s : State) : State × Option (List Byte) :=
  if openEmpty s.store then reply s .empty
  else
    (reportFreedSlots (clearOwed (raiseCause .aborted (discardOpen .aborted s))),
      some (replyByte .ok :: bytes16 (BitVec.ofNat 16 (openCount s.store))))

/-- ABORT_OPEN (R135). -/
def execAbortOpen (s : State) : Host.Outcome State Fault Refusal :=
  runCommand .abortOpen abortOpen s

/-- An apply is armed, or NAK_ARMED (R31). -/
def armApply (s : State) : State × Option (List Byte) :=
  match s.windows.applyState with
  | .armed => reply s .nakArmed
  | .idle => reply (s.setWindows { s.windows with applyState := .armed }) .ok

/-- APPLY_TABLE (R31). -/
def execApplyTable (s : State) : Host.Outcome State Fault Refusal :=
  runCommand .applyTable armApply s

/-- An armed apply is cancelled, or NOT_ARMED (R32). -/
def cancelApply (s : State) : State × Option (List Byte) :=
  match s.windows.applyState with
  | .idle => reply s .notArmed
  | .armed => reply (s.setWindows { s.windows with applyState := .idle, lastOutcome := .cancelled }) .ok

/-- CANCEL_APPLY (R32). -/
def execCancelApply (s : State) : Host.Outcome State Fault Refusal :=
  runCommand .cancelApply cancelApply s

/-- The run state of an index becomes NORMAL, or NAK_RANGE (R41). -/
def clearFault (index : Byte) (s : State) : State × Option (List Byte) :=
  if index.toNat < 16 then
    reply (s.setWindows
      { s.windows with faultSet := s.windows.faultSet &&& ~~~(BitVec.ofNat 16 (2 ^ index.toNat)) }) .ok
  else reply s .nakRange

/-- CLEAR_FAULT (R41). -/
def execClearFault (index : Byte) (s : State) : Host.Outcome State Fault Refusal :=
  runCommand (.clearFault index) (clearFault index) s

/-- QUERY_WORD (R23, R192): the store is read and nothing changes. -/
def execQueryWord (addr : Word) (s : State) : Host.Outcome State Fault Refusal :=
  runCommand (.queryWord addr) (fun t => (t, some (queryReply t.store addr))) s

end Sys2Proof.Machine
end

