-- ==== Sys2Proof/Machine/Downstream.lean ====
section
/-! DEFINITION. The meanings of the downstream commands (chapter 4): GRANT, DOWNSTREAM_RESPONSE,
DOWNSTREAM_TIMEOUT_EXPIRY, STALE_TAG_RELEASE and DEADLINE_DUE. -/

namespace Sys2Proof.Machine

/-- GRANT (R78): with a tag free and a requester waiting, one requester is granted and its request issued. -/
def execGrant (s : State) : Host.Outcome State Fault Refusal :=
  .next (arbitrate s)

/-- The URQ entry that a downstream READ answers. -/
def readEntry (u : UPort) (o : Origin) : Option UrqEntry :=
  match o with
  | .read serial => u.urq.find? fun e => e.serial == serial
  | .write _ => none
  | .spill _ => none
  | .drain _ => none

/-- The OK data of a READ is as long as the READ asks for (00_scope.md 4.2; assumption log 7). -/
def answerFits (u : UPort) (m : InFlight) (a : Answer) : Bool :=
  match a with
  | .error => true
  | .ok data =>
    match readEntry u m.origin with
    | none => true
    | some e => data.length == e.request.len.bytes

/-- Free data as long as the READ of a member asks for. -/
def freeData (draw : Nat) (u : UPort) (m : InFlight) : Answer :=
  match readEntry u m.origin with
  | none => .ok []
  | some e => .ok ((List.range e.request.len.bytes).map (Config.freeByte draw))

/-- DOWNSTREAM_RESPONSE (R74): to the member holding the tag, its origin unless it is an orphan; else a stale tag is
freed; else nothing. OK data that is not as long as the READ is taken as that READ's response all the same (R76, R85), and
the bytes that the origin receives are free (assumption log 7). -/
def execDownstreamResponse (tag : Tag) (answer : Answer) (s : State) : Host.Outcome State Fault Refusal :=
  match memberWithTag s.dport tag with
  | none => .next (removeStale tag s)
  | some m =>
    if m.orphan then .next (removeMember tag s)
    else if answerFits s.uport m answer then .next (deliver m.origin answer (removeMember tag s))
    else
      .next ((deliver m.origin (freeData s.drawn s.uport m) (removeMember tag s)).setDrawn (s.drawn + 1))

/-- A tag enters the stale tag set until DS_TIMEOUT × 16 ticks have passed (R76). -/
def addStale (t : Tag) (s : State) : State :=
  s.setDport
    { s.dport with
      stale := s.dport.stale ++
        [{ tag := t, release := s.now + s.dport.dsTimeout * Config.ticksPerUnit }] }

/-- The member holding a tag has reached its expiry (R75). -/
def expiredMember (s : State) (t : Tag) : Option InFlight :=
  (memberWithTag s.dport t).filter fun m => decide (m.expiry ≤ s.now)

/-- DOWNSTREAM_TIMEOUT_EXPIRY (R75): the member is removed, its tag becomes stale, DOWNSTREAM_TIMEOUT is raised, and the
origin of a member that is no orphan receives ERROR. -/
def execDownstreamTimeoutExpiry (tag : Tag) (s : State) : Host.Outcome State Fault Refusal :=
  match expiredMember s tag with
  | none => .next s
  | some m =>
    let timedOut := raiseCause .downstreamTimeout (addStale tag (removeMember tag s))
    if m.orphan then .next timedOut else .next (deliver m.origin .error timedOut)

/-- A stale tag whose release instant has come (R76). -/
def releaseDue (s : State) (t : Tag) : Bool :=
  s.dport.stale.any fun x => x.tag == t && decide (x.release ≤ s.now)

/-- STALE_TAG_RELEASE (R76). -/
def execStaleTagRelease (tag : Tag) (s : State) : Host.Outcome State Fault Refusal :=
  if releaseDue s tag then .next (removeStale tag s) else .next s

/-- The sealed generation whose deadline falls due and has not fallen due before (R69). -/
def lateGeneration (s : State) : Option SealedGen :=
  s.store.sealedGen.filter fun g => !g.late && decide (g.deadline ≤ s.now)

/-- DEADLINE_DUE (R69): the late flag, COMMIT_LATE and urgent mode. -/
def execDeadlineDue (s : State) : Host.Outcome State Fault Refusal :=
  match lateGeneration s with
  | none => .next s
  | some g =>
    .next ((raiseCause .commitLate (s.setStore (withSealed s.store { g with late := true }))).setDrain
      { s.drain with urgent := true })

end Sys2Proof.Machine
end

