-- ==== Sys2Proof/Machine/Framing.lean ====
section
/-! DEFINITION. The meanings of the management framing commands (sections 10.1 to 10.4): FRAME_START, FRAME_END, NAK_CODE,
COMMAND_PARAMETER_BYTE and COMMAND_CRC_MISMATCH. -/

namespace Sys2Proof.Machine

/-- The outgoing stream: status byte, RLEN, reply bytes, RCRC; an empty slot is a reply of no bytes (R169, R176). -/
def outgoingStream (status : Byte) (slot : Option (List Byte)) : List Byte :=
  let reply := slot.getD []
  let body := BitVec.ofNat 8 reply.length :: reply
  status :: (body ++ [crc8 body])

/-- The port at a frame start (R169). -/
def startFrame (status : Byte) (m : Management) : Management :=
  { m with
    rx := .awaitCode, buffer := [], slot := none, outgoing := some (outgoingStream status m.slot), clocked := 0,
    mcsn := .low }

/-- FRAME_START (R169): MCSn falls. -/
def execFrameStart (s : State) : Host.Outcome State Fault Refusal :=
  if s.management.mcsn = .high then .next (s.setManagement (startFrame (statusByte s) s.management)) else .next s

/-- The port at a frame end, by the receiver state (R173), with the last-frame error of R174. In IDLE no frame has started
(R188). -/
def endFrame (m : Management) : Management :=
  let ended := { m with rx := .idle, outgoing := none, clocked := 0, mcsn := .high }
  match m.rx with
  | .idle => ended
  | .awaitCode => ended
  | .params => { ended with slot := some (codeReply .truncated), lastFrameError := true }
  | .awaitCrc => { ended with slot := some (codeReply .truncated), lastFrameError := true }
  | .done => { ended with lastFrameError := m.slot == some (codeReply .crcError) }
  | .discard => { ended with lastFrameError := false }

/-- FRAME_END (R173, R174): MCSn rises. The bits of an incomplete last byte are discarded before the judgement (R167). -/
def execFrameEnd (_leftover : List Bool) (s : State) : Host.Outcome State Fault Refusal :=
  if s.management.mcsn = .low then .next (s.setManagement (endFrame s.management)) else .next s

/-- NAK_CODE (R170): an unknown code byte in AWAIT_CODE is answered NAK_CODE, and the rest of the frame is discarded. -/
def execNakCode (code : Byte) (s : State) : Host.Outcome State Fault Refusal :=
  if s.management.rx = .awaitCode ∧ paramCount code = none then
    .next (s.setManagement
      { clockByte s.management with slot := some (codeReply .nakCode), rx := .discard })
  else .next s

/-- Parameter bytes of the code kept in the buffer, 0 where none is kept. -/
def paramsExpected (buffer : List Byte) : Nat :=
  match buffer with
  | [] => 0
  | code :: _ => (paramCount code).getD 0

/-- The port at a code or parameter byte, or a byte it ignores (R170 to R172); none where the byte is an unknown code, a
CRC byte, or no frame has started. -/
def keepByte (b : Byte) (m : Management) : Option Management :=
  match m.rx with
  | .idle => none
  | .awaitCode =>
    match paramCount b with
    | none => none
    | some 0 => some { clockByte m with buffer := [b], rx := .awaitCrc }
    | some (_ + 1) => some { clockByte m with buffer := [b], rx := .params }
  | .params =>
    some
      { clockByte m with
        buffer := m.buffer ++ [b]
        rx := if paramsExpected m.buffer ≤ m.buffer.length then .awaitCrc else .params }
  | .awaitCrc => none
  | .done => some (clockByte m)
  | .discard => some (clockByte m)

/-- COMMAND_PARAMETER_BYTE (R170, R171): the byte is kept in the command buffer, and the receiver moves to PARAMS or
AWAIT_CRC; in DONE and DISCARD it is ignored, and only clocks the outgoing stream on. -/
def execCommandParameterByte (b : Byte) (s : State) : Host.Outcome State Fault Refusal :=
  match keepByte b s.management with
  | none => .next s
  | some m => .next (s.setManagement m)

/-- COMMAND_CRC_MISMATCH (R172): a CRC byte that differs from the CRC of the buffer leaves the command unexecuted and
places CRC_ERROR in the reply slot. -/
def execCommandCrcMismatch (crc : Byte) (s : State) : Host.Outcome State Fault Refusal :=
  if s.management.rx = .awaitCrc ∧ crc ≠ crc8 s.management.buffer then
    .next (s.setManagement
      { clockByte s.management with slot := some (codeReply .crcError), rx := .done })
  else .next s

end Sys2Proof.Machine
end

