-- ==== Sys2Proof/Machine/Items.lean ====
section
/-! DEFINITION. The meanings of the item commands (sections 10.7 and 10.8): READ_ITEM, WRITE_ITEM and the write rows of
chapters 2, 5, 6 and 9. Each write answers the state and a reply code; a refused write leaves the state. -/

namespace Sys2Proof.Machine

/-! ### Reading (R182, R183) -/

/-- The values of items, four bytes each; none where one does not exist. -/
def readValues (s : State) : List Nat → Option (List Byte)
  | [] => some []
  | n :: rest =>
    match itemOfNumber n, readValues s rest with
    | some it, some bytes => some (bytes32 (itemValue s it) ++ bytes)
    | _, _ => none

/-- The numbers from a first one, count of them; they do not wrap (R182). -/
def itemRun (first count : Nat) : List Nat :=
  (List.range count).map fun i => first + i

/-- The reply to READ_ITEM (R182). -/
def readItemReply (item : Half) (count : Byte) (s : State) : List Byte :=
  if count.toNat = 0 ∨ 8 < count.toNat then codeReply .nakRange
  else
    match readValues s (itemRun item.toNat count.toNat) with
    | none => codeReply .nakItem
    | some bytes => replyByte .ok :: bytes

/-- READ_ITEM (R182, R183): 1 to 8 consecutive items read at one moment. -/
def execReadItem (item : Half) (count : Byte) (s : State) : Host.Outcome State Fault Refusal :=
  runCommand (.readItem item count) (fun t => (t, some (readItemReply item count t))) s

/-! ### Shadow window items (R29, R30, R190) -/

/-- A descriptor with one item written; none where the value is out of range (R29, R190). -/
def writeDescriptor (f : WindowField) (v : Word) (d : Descriptor) : Option Descriptor :=
  match f with
  | .base => if v.toNat % Config.pageBytes = 0 then some { d with base := v } else none
  | .pages => if 1 ≤ v.toNat ∧ v.toNat ≤ 65536 then some { d with pages := v.toNat } else none
  | .policyView =>
    if v &&& 0xFFFFFEFC#32 = 0#32 then
      (policyOfCode (v.toNat % 4)).map fun p =>
        { d with policy := p, view := if v.getLsbD 8 then .committed else .latest }
    else none
  | .enable => if v.toNat ≤ 1 then some { d with enable := v.toNat = 1 } else none

/-- A write of a shadow window item: NAK_ARMED while ARMED, else range-checked and stored (R29, R30). -/
def writeShadowWindow (w : Window) (f : WindowField) (v : Word) (s : State) : State × ReplyCode :=
  if applyArmed s then (s, .nakArmed)
  else
    match writeDescriptor f v (descriptorOf s.windows.shadow w) with
    | none => (s, .nakRange)
    | some d => (s.setWindows { s.windows with shadow := s.windows.shadow.set w.val d }, .ok)

/-! ### Shadow timing items (R95) -/

/-- The shadow set with one quantity written; none where the value is out of the item range (section 5.6). -/
def writeTiming (q : TimingField) (v : Nat) (t : Timing) : Option Timing :=
  match q with
  | .period => if 256 ≤ v ∧ v ≤ 16777215 then some { t with period := v } else none
  | .sealPhase => if v ≤ 16777214 then some { t with sealPhase := v } else none
  | .deadline => if 1 ≤ v ∧ v ≤ 16777215 then some { t with deadline := v } else none

/-- A write of a shadow timing item; an accepted one clears the refusal mark (R95). -/
def writeShadowTiming (q : TimingField) (v : Word) (s : State) : State × ReplyCode :=
  match writeTiming q v.toNat s.timer.shadow with
  | none => (s, .nakRange)
  | some t => (s.setTimer { s.timer with shadow := t, refusalMark := false }, .ok)

/-! ### Tracker parameters (R104 to R106, R118) -/

/-- The tracker with one parameter written; none where the value is out of range. The two tolerances are checked against
each other as they stand (R104). -/
def writeParam (p : TrackerParam) (v : Nat) (t : Tracker) : Option Tracker :=
  match p with
  | .tolNarrow => if v ≤ 65535 ∧ v ≤ t.tolWide then some { t with tolNarrow := v } else none
  | .tolWide => if 1 ≤ v ∧ v ≤ 65535 ∧ t.tolNarrow ≤ v then some { t with tolWide := v } else none
  | .nAcq => if 1 ≤ v ∧ v ≤ 15 then some { t with nAcq := v } else none
  | .nLock => if 1 ≤ v ∧ v ≤ 255 then some { t with nLock := v } else none
  | .holdoverLimit => if v ≤ 255 then some { t with holdoverLimit := v } else none

/-- A write of a tracker parameter: NAK_LOCKED while TRACK_EN is 1, else range-checked and stored (R104). -/
def writeTrackerParam (p : TrackerParam) (v : Word) (s : State) : State × ReplyCode :=
  if s.tracker.trackEn then (s, .nakLocked)
  else
    match writeParam p v.toNat s.tracker with
    | none => (s, .nakRange)
    | some t => (s.setTracker t, .ok)

/-- A write of TRACK_EN with value 1 (R105). Where the phase stands at PERIOD with its boundary still due (assumption log
23), R89 would take a boundary as part of the change, and R105 changes neither phase nor frame number: taking none and
leaving the boundary due is the model's choice (assumption log 25). -/
def enableTracker (s : State) : State × ReplyCode :=
  if s.tracker.trackEn then (s, .ok)
  else if s.tracker.tolNarrow ≤ s.tracker.tolWide ∧ 2 * s.tracker.tolWide < s.timer.active.period then
    (changeTracker
      { s.tracker with
        trackEn := true, state := .acquire, goodCount := 0, lockCount := 0, holdoverCount := 0, reference := none }
      [] s, .ok)
  else (s, .nakRange)

/-- Step 4 of a disable, and the rule of R89: a boundary at once where the phase is at or above PERIOD. -/
def boundaryIfPast (s : State) : State :=
  if s.timer.active.period ≤ s.timer.phase then takeBoundary s else s

/-- A write of TRACK_EN with value 0 (R106). -/
def disableTracker (s : State) : State × ReplyCode :=
  if s.tracker.trackEn then
    (boundaryIfPast (changeTracker
      { s.tracker with
        trackEn := false, state := .free, goodCount := 0, lockCount := 0, holdoverCount := 0, reference := none }
      (lockLostFrom s.tracker.state) s), .ok)
  else (s, .ok)

/-- A write of TRACK_EN (R105, R106). -/
def writeTrackEn (v : Word) (s : State) : State × ReplyCode :=
  if v = 1#32 then enableTracker s else if v = 0#32 then disableTracker s else (s, .nakRange)

/-- A write of GATE: stored in every tracker state, and an opening of the commit gate is a permission-return moment
(R104, R118). -/
def writeGate (v : Word) (s : State) : State × ReplyCode :=
  match gateOfCode v.toNat with
  | none => (s, .nakRange)
  | some g => (changeTracker { s.tracker with gate := g } [] s, .ok)

/-! ### The other read-write items -/

/-- A write of the enable set: positions 31 to 16 are not assigned to a cause (R158). -/
def writeEnableSet (v : Word) (s : State) : State × ReplyCode :=
  if v.toNat < 65536 then (replaceEnableSet (v.setWidth 16) s, .ok) else (s, .nakRange)

/-- A write of HOLD_LIMIT (R133). -/
def writeHoldLimit (v : Nat) (s : State) : State × ReplyCode :=
  if 1 ≤ v ∧ v ≤ 255 then (s.setSealing { s.sealing with holdLimit := v }, .ok) else (s, .nakRange)

/-- A write of LATE_SEAL; it is no permission-return moment (R128). -/
def writeLateSeal (v : Nat) (s : State) : State × ReplyCode :=
  match v with
  | 0 => (s.setSealing { s.sealing with lateSeal := .immediate }, .ok)
  | 1 => (s.setSealing { s.sealing with lateSeal := .nextPoint }, .ok)
  | _ => (s, .nakRange)

/-- A write of STALL_LIMIT (R186). -/
def writeStallLimit (v : Nat) (s : State) : State × ReplyCode :=
  if v ≤ 65535 then (s.setUport { s.uport with stallLimit := v }, .ok) else (s, .nakRange)

/-- A write of DS_TIMEOUT (R81). -/
def writeDsTimeout (v : Nat) (s : State) : State × ReplyCode :=
  if 1 ≤ v ∧ v ≤ 65535 then (s.setDport { s.dport with dsTimeout := v }, .ok) else (s, .nakRange)

/-- A write of RETRY_LIMIT (R81). -/
def writeRetryLimit (v : Nat) (s : State) : State × ReplyCode :=
  if v ≤ 3 then (s.setDport { s.dport with retryLimit := v }, .ok) else (s, .nakRange)

/-- A write of DRAIN_SHARE (R81). -/
def writeDrainShare (v : Nat) (s : State) : State × ReplyCode :=
  if 1 ≤ v ∧ v ≤ 15 then (s.setDport { s.dport with drainShare := v }, .ok) else (s, .nakRange)

/-! ### WRITE_ITEM (R184) -/

/-- Steps 2 to 5 of R184 for an item that exists: access, armed apply, tracker lock, range. -/
def writeExisting (it : Item) (v : Word) (s : State) : State × ReplyCode :=
  match it with
  | .deviceId => (s, .nakRo)
  | .shadowWindow w f => writeShadowWindow w f v s
  | .activeWindow _ _ => (s, .nakRo)
  | .faultSet => (s, .nakRo)
  | .applyOutcome => (s, .nakRo)
  | .windowCounts _ => (s, .nakRo)
  | .shadowTiming q => writeShadowTiming q v s
  | .activeTiming _ => (s, .nakRo)
  | .trackEn => writeTrackEn v s
  | .trackerParam p => writeTrackerParam p v s
  | .gate => writeGate v s
  | .trackerState => (s, .nakRo)
  | .goodAndLock => (s, .nakRo)
  | .lastInterval => (s, .nakRo)
  | .holdoverCount => (s, .nakRo)
  | .frameNumber => (s, .nakRo)
  | .phase => (s, .nakRo)
  | .holdLimit => writeHoldLimit v.toNat s
  | .lateSeal => writeLateSeal v.toNat s
  | .sealState => (s, .nakRo)
  | .openGen => (s, .nakRo)
  | .openCount => (s, .nakRo)
  | .sealedGen => (s, .nakRo)
  | .sealedRemaining => (s, .nakRo)
  | .freeSlots => (s, .nakRo)
  | .stallLimit => writeStallLimit v.toNat s
  | .dsTimeout => writeDsTimeout v.toNat s
  | .retryLimit => writeRetryLimit v.toNat s
  | .drainShare => writeDrainShare v.toNat s
  | .causeSet => (s, .nakRo)
  | .enableSet => writeEnableSet v s
  | .recordsUnread => (s, .nakRo)
  | .recordsHeld => (s, .nakRo)

/-- A WRITE_ITEM: existence first (R184). -/
def writeItem (item : Half) (v : Word) (s : State) : State × ReplyCode :=
  match itemOfNumber item.toNat with
  | none => (s, .nakItem)
  | some it => writeExisting it v s

/-- A write's state with its reply. -/
def withCode (p : State × ReplyCode) : State × Option (List Byte) :=
  (p.1, some (codeReply p.2))

/-- WRITE_ITEM (R184). -/
def execWriteItem (item : Half) (value : Word) (s : State) : Host.Outcome State Fault Refusal :=
  runCommand (.writeItem item value) (fun t => withCode (writeItem item value t)) s

/-- SHADOW_WINDOW_WRITE (R29, R30). -/
def execShadowWindowWrite (w : Window) (field : WindowField) (value : Word) (s : State) :
    Host.Outcome State Fault Refusal :=
  runCommand (.shadowWindowWrite w field value) (fun t => withCode (writeShadowWindow w field value t)) s

/-- SHADOW_TIMING_WRITE (R95). -/
def execShadowTimingWrite (q : TimingField) (value : Word) (s : State) : Host.Outcome State Fault Refusal :=
  runCommand (.shadowTimingWrite q value) (fun t => withCode (writeShadowTiming q value t)) s

/-- TRACKER_PARAMETER_WRITE (R104). -/
def execTrackerParameterWrite (p : TrackerParam) (value : Word) (s : State) : Host.Outcome State Fault Refusal :=
  runCommand (.trackerParameterWrite p value) (fun t => withCode (writeTrackerParam p value t)) s

/-- TRACK_EN_ENABLE (R105). -/
def execTrackEnEnable (s : State) : Host.Outcome State Fault Refusal :=
  runCommand .trackEnEnable (fun t => withCode (enableTracker t)) s

/-- TRACK_EN_DISABLE (R106). -/
def execTrackEnDisable (s : State) : Host.Outcome State Fault Refusal :=
  runCommand .trackEnDisable (fun t => withCode (disableTracker t)) s

/-- GATE_WRITE (R104, R118). -/
def execGateWrite (value : Word) (s : State) : Host.Outcome State Fault Refusal :=
  runCommand (.gateWrite value) (fun t => withCode (writeGate value t)) s

/-- ENABLE_SET_WRITE (R158). -/
def execEnableSetWrite (value : Word) (s : State) : Host.Outcome State Fault Refusal :=
  runCommand (.enableSetWrite value) (fun t => withCode (writeEnableSet value t)) s

end Sys2Proof.Machine
end

