-- ==== Sys2Proof/Machine/Reset.lean ====
section
/-! DEFINITION. The meanings of the resets: SRSTN_ASSERTION, SRSTN_DEASSERTION and POWER_ON_RESET. -/

namespace Sys2Proof.Machine

/-- The U-port at the assertion: every request discarded without a response, the issue order withdrawn, the stall timer
stopped, a hold ended, the port closed (R60). -/
def closePort (u : UPort) : UPort :=
  { u with urq := [], issueOrder := [], stall := none, spillHeld := false, isOpen := false }

/-- The origin is the sealed generation, which survives a warm reset. -/
def isDrain (o : Origin) : Bool :=
  match o with
  | .read _ => false
  | .write _ => false
  | .spill _ => false
  | .drain _ => true

/-- Members of the three upstream origins become orphans (R77). -/
def orphanMembers (d : DPort) : DPort :=
  { d with inFlight := d.inFlight.map fun m => if isDrain m.origin then m else { m with orphan := true } }

/-- The Seal Controller's own state at the assertion; HOLD_LIMIT and LATE_SEAL are kept (R138). -/
def clearSealing (c : SealControl) : SealControl :=
  { c with hold := .notHeld, holdCount := 0, expired := false, owed := false, commitNow := false }

/-- Everything that the assertion of SRSTn does: URQ and port, orphans, the discard with its record and its slot-free
report (which finds no stalled write), the seal state (R16, R60, R77, R138). -/
def assertReset (s : State) : State :=
  let closed := ((s.setSrstn .low).setUport (closePort s.uport)).setDport (orphanMembers s.dport)
  let discarded := reportFreedSlots (discardOpen .resetDiscarded closed)
  discarded.setSealing (clearSealing discarded.sealing)

/-- SRSTN_ASSERTION (R16, R60, R77, R138): SRSTn goes low. While it is low it cannot go low (assumption log 3). -/
def execSrstnAssertion (s : State) : Host.Outcome State Fault Refusal :=
  if s.srstn = .high then .next (assertReset s) else .next s

/-- SRSTN_DEASSERTION (R61, R139): SRSTn goes high, a permission-return moment, and the port reopens if no sealed
generation exists. -/
def execSrstnDeassertion (s : State) : Host.Outcome State Fault Refusal :=
  if s.srstn = .low then .next (reopenPort (permissionReturn (s.setSrstn .high))) else .next s

/-- The part when power-on reset ends with the two pins at the levels given: R62 closes the port where SRSTn is low, R188
keeps the receiver IDLE until the next falling edge where MCSn is low. -/
def powerOnState (srstn mcsn : Level) : State :=
  ((State.reset.setSrstn srstn).setUport { State.reset.uport with isOpen := srstn == .high }).setManagement
    { State.reset.management with mcsn := mcsn }

/-- POWER_ON_RESET (R24, R42, R62, R85, R100, R120, R140, R154, R166, R188). The queue and the SYNC levels to come are
the environment's and stay (assumption log 13), and so does the model's count of draws (assumption log 24). -/
def execPowerOnReset (srstn mcsn : Level) (s : State) : Host.Outcome State Fault Refusal :=
  .next ((((powerOnState srstn mcsn).setSync { State.reset.sync with levels := s.sync.levels }).setDrawn s.drawn).setPending
    s.pending)

end Sys2Proof.Machine
end

