-- ==== Sys2Proof/Machine/Timing.lean ====
section
/-! DEFINITION. The meanings of the frame timing commands (chapters 5 and 6): SEAL_POINT, FRAME_BOUNDARY, SYNC_EDGE and
MISSING_SYNC_POINT. -/

namespace Sys2Proof.Machine

/-- The phase stands at SEAL_PHASE with the seal-point-offered flag clear (R91). -/
def sealPointDue (s : State) : Bool :=
  !s.timer.offered && s.timer.phase == s.timer.active.sealPhase

/-- SEAL_POINT (R91, R125): the seal point is offered and the flag set. -/
def execSealPoint (s : State) : Host.Outcome State Fault Refusal :=
  if sealPointDue s then
    .next ((offerSealPoint .sealPoint (frameStamp s) s).setTimer { s.timer with offered := true })
  else .next s

/-- The phase has reached what the timer makes a boundary of: PERIOD in FREE and ACQUIRE, Plast in HOLDOVER (R88). An event
of the same instant that comes before the boundary finds the phase there, at PERIOD or at Plast: the model's choice
(assumption log 23). -/
def boundaryDue (s : State) : Bool :=
  match s.tracker.state with
  | .free => decide (s.timer.active.period ≤ s.timer.phase)
  | .acquire => decide (s.timer.active.period ≤ s.timer.phase)
  | .track => false
  | .locked => false
  | .holdover => decide (s.tracker.plast ≤ s.timer.phase)

/-- The end of a holdover frame, after the boundary's steps: the count, and exhaustion at HOLDOVER_LIMIT (R108, R115). -/
def endHoldoverFrame (s : State) : State :=
  if s.tracker.holdoverCount + 1 = s.tracker.holdoverLimit then
    changeTracker
      { s.tracker with
        state := .acquire, goodCount := 0, lockCount := 0, holdoverCount := 0, reference := none }
      [.holdoverExhausted] s
  else s.setTracker { s.tracker with holdoverCount := s.tracker.holdoverCount + 1 }

/-- The missing-sync point in ACQUIRE: the reference is dropped (R111). -/
def missingInAcquire (s : State) : State :=
  s.setTracker { s.tracker with reference := none, goodCount := 0 }

/-- After a free-running boundary in ACQUIRE: the missing-sync point falls at the transfer itself where the new
PERIOD + TOL_WIDE has already been passed (R111). -/
def dropPassedReference (s : State) : State :=
  match s.tracker.reference with
  | none => s
  | some r => if r + s.timer.active.period + s.tracker.tolWide < s.now then missingInAcquire s else s

/-- FRAME_BOUNDARY (R87, R88, R111, R115): the boundary that the timer makes itself. -/
def execFrameBoundary (s : State) : Host.Outcome State Fault Refusal :=
  if boundaryDue s then
    match s.tracker.state with
    | .free => .next (takeBoundary s)
    | .acquire => .next (dropPassedReference (takeBoundary s))
    | .track => .next (takeBoundary s)
    | .locked => .next (takeBoundary s)
    | .holdover => .next (endHoldoverFrame (takeBoundary s))
  else .next s

/-- An edge that only becomes the reference (R109). -/
def takeReference (s : State) : State :=
  s.setTracker { s.tracker with reference := some s.now }

/-- An edge of an interval in ACQUIRE (R110). -/
def acquireEdge (i : Nat) (s : State) : State :=
  let c := classOf i s.timer.active.period s.tracker.tolNarrow s.tracker.tolWide
  let measured := measureInterval i c s
  if goodClass c then
    if measured.tracker.goodCount + 1 = measured.tracker.nAcq then
      let b := takeBoundary measured
      changeTracker
        { b.tracker with
          state := .track, goodCount := b.tracker.goodCount + 1, lockCount := 0, reference := some b.now }
        [] b
    else
      measured.setTracker
        { measured.tracker with goodCount := measured.tracker.goodCount + 1, reference := some measured.now }
  else measured.setTracker { measured.tracker with goodCount := 0, reference := some measured.now }

/-- An EARLY edge in TRACK or LOCKED: no boundary, ACQUIRE, LOCK_LOST from LOCKED (R112, R113). -/
def earlyEdge (s : State) : State :=
  changeTracker
    { s.tracker with state := .acquire, goodCount := 0, lockCount := 0, reference := some s.now }
    (lockLostFrom s.tracker.state) s

/-- A WIDE edge in TRACK or LOCKED: a boundary, TRACK with lock count 0, LOCK_LOST from LOCKED (R112, R113). -/
def wideEdge (s : State) : State :=
  let b := takeBoundary s
  changeTracker { b.tracker with state := .track, lockCount := 0, reference := some b.now }
    (lockLostFrom b.tracker.state) b

/-- A NARROW edge in TRACK: a boundary, lock count + 1, LOCKED with LOCK_GAINED at N_LOCK (R112). -/
def narrowEdgeInTrack (s : State) : State :=
  let b := takeBoundary s
  if b.tracker.lockCount + 1 = b.tracker.nLock then
    changeTracker
      { b.tracker with state := .locked, lockCount := b.tracker.lockCount + 1, reference := some b.now }
      [.lockGained] b
  else b.setTracker { b.tracker with lockCount := b.tracker.lockCount + 1, reference := some b.now }

/-- A NARROW edge in LOCKED: a boundary; the lock count stays (R113). -/
def narrowEdgeInLocked (s : State) : State :=
  takeReference (takeBoundary s)

/-- An edge of an interval in TRACK or LOCKED, by its class (R112, R113). No state reached has a LATE-EDGE there, and the
rules give it no effect (R107; assumption log 8). -/
def trackEdge (i : Nat) (s : State) : Host.Outcome State Fault Refusal :=
  let c := classOf i s.timer.active.period s.tracker.tolNarrow s.tracker.tolWide
  let measured := measureInterval i c s
  match c with
  | .narrow => .next (if s.tracker.state = .locked then narrowEdgeInLocked measured else narrowEdgeInTrack measured)
  | .wide => .next (wideEdge measured)
  | .early => .next (earlyEdge measured)
  | .lateEdge => .fault .lateEdgeInTrack

/-- The tracker after an accepted edge in HOLDOVER (R116). The time from the previous reference becomes the last interval,
saturating; Plast is kept. -/
def afterHoldoverEdge (s : State) : Tracker :=
  { s.tracker with
    state := .track
    lockCount := 0
    holdoverCount := 0
    lastInterval :=
      match s.tracker.reference with
      | none => s.tracker.lastInterval
      | some r => min (s.now - r) Config.countMax
    reference := some s.now }

/-- An edge in HOLDOVER, judged by its phase: a boundary, a realignment, or ignored (R116). -/
def holdoverEdge (s : State) : State :=
  if s.tracker.plast - s.tracker.tolWide ≤ s.timer.phase then
    let b := takeBoundary s
    changeTracker (afterHoldoverEdge b) [] b
  else if s.timer.phase ≤ s.tracker.tolWide then
    let b := realign s
    changeTracker (afterHoldoverEdge b) [] b
  else s

/-- What the tracker does with a recognised edge, by its state (R102, R109, R110, R112, R113, R116). -/
def handleEdge (s : State) : Host.Outcome State Fault Refusal :=
  match s.tracker.state, s.tracker.reference with
  | .free, _ => .next s
  | .holdover, _ => .next (holdoverEdge s)
  | .acquire, none => .next (takeReference s)
  | .track, none => .next (takeReference s)
  | .locked, none => .next (takeReference s)
  | .acquire, some r => .next (acquireEdge (s.now - r) s)
  | .track, some r => trackEdge (s.now - r) s
  | .locked, some r => trackEdge (s.now - r) s

/-- The recognised-edge mark is cleared (assumption log 12). -/
def clearEdgeMark (s : State) : State :=
  s.setSync { s.sync with edgeDue := false }

/-- SYNC_EDGE (R102): a recognised rising edge of SYNC is handled by the tracker state. -/
def execSyncEdge (s : State) : Host.Outcome State Fault Refusal :=
  handleEdge (clearEdgeMark s)

/-- The time since the reference has reached PERIOD + TOL_WIDE (R111, R114). -/
def missingSyncDue (s : State) : Bool :=
  match s.tracker.state, s.tracker.reference with
  | .free, _ => false
  | .holdover, _ => false
  | _, none => false
  | _, some r => decide (r + s.timer.active.period + s.tracker.tolWide ≤ s.now)

/-- The missing-sync point in TRACK or LOCKED: a boundary, then HOLDOVER, or ACQUIRE where HOLDOVER_LIMIT is 0, and
LOCK_LOST from LOCKED (R114). -/
def missingInTrack (s : State) : State :=
  let b := takeBoundary s
  let next :=
    if 0 < b.tracker.holdoverLimit then { b.tracker with state := .holdover, holdoverCount := 0 }
    else { b.tracker with state := .acquire, goodCount := 0, lockCount := 0, reference := none }
  changeTracker next (lockLostFrom b.tracker.state) b

/-- MISSING_SYNC_POINT (R111, R114). -/
def execMissingSyncPoint (s : State) : Host.Outcome State Fault Refusal :=
  if missingSyncDue s then
    if s.tracker.state = .acquire then .next (missingInAcquire s) else .next (missingInTrack s)
  else .next s

end Sys2Proof.Machine
end

