-- ==== Sys2Proof/Machine/Upstream.lean ====
section
/-! DEFINITION. The meanings of the upstream commands (chapter 3): REQUEST_ARRIVAL, TAKING, RESPONSE_DEPARTURE and
STALL_TIMER_EXPIRY. -/

namespace Sys2Proof.Machine

/-- A new URQ entry in phase WAITING (R44, R45). -/
def waitingEntry (serial : Nat) (r : Request) : UrqEntry :=
  { serial := serial, request := r, phase := .waiting, classification := none, snapshot := none, response := none }

/-- The port accepts: it is open and the URQ holds fewer than 8 requests (R45). -/
def accepts (u : UPort) : Bool :=
  u.isOpen && decide (u.urq.length < Config.urqDepth)

/-- A request is appended to the URQ tail in phase WAITING (R45). -/
def appendRequest (r : Request) (s : State) : State :=
  s.setUport
    { s.uport with
      urq := s.uport.urq ++ [waitingEntry s.uport.nextSerial r]
      nextSerial := s.uport.nextSerial + 1 }

/-- REQUEST_ARRIVAL (R45): accepted, or withheld with no state changed: the request stays with the controller, which
presents it again (assumption log 16). A request that is not of the form of 00_scope.md 4.2 is accepted all the same, and
what the rules leave unsaid of it is free (assumption log 6). -/
def execRequestArrival (r : Request) (s : State) : Host.Outcome State Fault Refusal :=
  if accepts s.uport then
    if r.wf then .next (appendRequest r s)
    else .next ((appendRequest (received s.drawn r) s).setDrawn (s.drawn + 1))
  else .next s

/-- The attempt has come before the issue: the head stays held and is taken at the issue (R56). -/
def holdHead (s : State) : State :=
  s.setUport { s.uport with spillHeld := true }

/-- TAKING (R46): the taking head, unless the port is closed or the head is held, stalled (R51) or spill-ordered (R56). The
hold is judged anew at each attempt, so a head found held that an apply has since made pass-through is taken here, before
the issue of the spill write: the model's choice (assumption log 26). -/
def execTaking (s : State) : Host.Outcome State Fault Refusal :=
  match takingHead s.uport with
  | none => .next s
  | some e =>
    if s.uport.isOpen && s.uport.stall.isNone then
      if spillOrderedHold s e then .next (holdHead s) else .next (attemptTaking e s)
    else .next s

/-- The response at the URQ head, where the head is ANSWERED-READY and the port open (R47, R61). -/
def departing (u : UPort) : Option Answer :=
  match u.urq with
  | [] => none
  | e :: _ => if u.isOpen && e.phase == .answeredReady then e.response else none

/-- RESPONSE_DEPARTURE (R47): the head's response is sent upstream and the request leaves the URQ. -/
def execResponseDeparture (s : State) : Host.Outcome State Fault Refusal :=
  match departing s.uport with
  | none => .next s
  | some a =>
    .next (s.setUport { s.uport with urq := s.uport.urq.drop 1, sent := s.uport.sent ++ [a] })

/-- The stall timer has expired. -/
def stallExpired (s : State) : Bool :=
  match s.uport.stall with
  | none => false
  | some t =>
    match t.due with
    | none => false
    | some due => decide (due ≤ s.now)

/-- The stalled write is answered ERROR and the stall ends; it was never taken, so it has no classification (R54). -/
def expireStalled (serial : Nat) (s : State) : State :=
  s.setUport
    { s.uport with
      urq := updateUrq serial (fun e => { e with phase := .answeredReady, response := some .error }) s.uport.urq
      stall := none }

/-- STALL_TIMER_EXPIRY (R54): the stalled write is answered ERROR and STALL_TIMEOUT is raised. -/
def execStallTimerExpiry (s : State) : Host.Outcome State Fault Refusal :=
  if stallExpired s then
    match takingHead s.uport with
    | none => .next s
    | some e => .next (raiseCause .stallTimeout (expireStalled e.serial s))
  else .next s

end Sys2Proof.Machine
end

