-- ==== Sys2Proof/Machine/Dispatch.lean ====
section
/-! DEFINITION. The dispatch: one arm for each command, one meaning for each arm. -/

namespace Sys2Proof.Machine

def exec (i : Instr) (s : State) : Host.Outcome State Fault Refusal :=
  match i with
  | .requestArrival r => Sys2Proof.Machine.execRequestArrival r s
  | .taking => Sys2Proof.Machine.execTaking s
  | .responseDeparture => Sys2Proof.Machine.execResponseDeparture s
  | .stallTimerExpiry => Sys2Proof.Machine.execStallTimerExpiry s
  | .grant => Sys2Proof.Machine.execGrant s
  | .downstreamResponse tag answer => Sys2Proof.Machine.execDownstreamResponse tag answer s
  | .downstreamTimeoutExpiry tag => Sys2Proof.Machine.execDownstreamTimeoutExpiry tag s
  | .staleTagRelease tag => Sys2Proof.Machine.execStaleTagRelease tag s
  | .deadlineDue => Sys2Proof.Machine.execDeadlineDue s
  | .sealPoint => Sys2Proof.Machine.execSealPoint s
  | .frameBoundary => Sys2Proof.Machine.execFrameBoundary s
  | .syncEdge => Sys2Proof.Machine.execSyncEdge s
  | .missingSyncPoint => Sys2Proof.Machine.execMissingSyncPoint s
  | .srstnAssertion => Sys2Proof.Machine.execSrstnAssertion s
  | .srstnDeassertion => Sys2Proof.Machine.execSrstnDeassertion s
  | .powerOnReset srstn mcsn => Sys2Proof.Machine.execPowerOnReset srstn mcsn s
  | .frameStart => Sys2Proof.Machine.execFrameStart s
  | .frameEnd leftover => Sys2Proof.Machine.execFrameEnd leftover s
  | .nakCode code => Sys2Proof.Machine.execNakCode code s
  | .nop => Sys2Proof.Machine.execNop s
  | .readItem item count => Sys2Proof.Machine.execReadItem item count s
  | .writeItem item value => Sys2Proof.Machine.execWriteItem item value s
  | .shadowWindowWrite w field value => Sys2Proof.Machine.execShadowWindowWrite w field value s
  | .shadowTimingWrite q value => Sys2Proof.Machine.execShadowTimingWrite q value s
  | .trackerParameterWrite p value => Sys2Proof.Machine.execTrackerParameterWrite p value s
  | .trackEnEnable => Sys2Proof.Machine.execTrackEnEnable s
  | .trackEnDisable => Sys2Proof.Machine.execTrackEnDisable s
  | .gateWrite value => Sys2Proof.Machine.execGateWrite value s
  | .enableSetWrite value => Sys2Proof.Machine.execEnableSetWrite value s
  | .readRecord => Sys2Proof.Machine.execReadRecord s
  | .ackAttn mask => Sys2Proof.Machine.execAckAttn mask s
  | .hold => Sys2Proof.Machine.execHold s
  | .release => Sys2Proof.Machine.execRelease s
  | .commitNow => Sys2Proof.Machine.execCommitNow s
  | .abortOpen => Sys2Proof.Machine.execAbortOpen s
  | .applyTable => Sys2Proof.Machine.execApplyTable s
  | .cancelApply => Sys2Proof.Machine.execCancelApply s
  | .clearFault index => Sys2Proof.Machine.execClearFault index s
  | .queryWord addr => Sys2Proof.Machine.execQueryWord addr s
  | .commandParameterByte b => Sys2Proof.Machine.execCommandParameterByte b s
  | .commandCrcMismatch crc => Sys2Proof.Machine.execCommandCrcMismatch crc s

end Sys2Proof.Machine
end

