-- ==== Sys2Proof/Machine/Tick.lean ====
section
/-! DEFINITION. What the part does when no command waits: the event that has fallen due, and otherwise one tick of REFCLK
(assumption log 2). -/

namespace Sys2Proof.Machine

/-! ### The tick (R86, R102) -/

/-- The level that SYNC shows at the next tick: the next of the listed levels, low once they are used up. -/
def nextLevel (levels : List Level) : Level :=
  match levels with
  | [] => .low
  | l :: _ => l

/-- SYNC is sampled: an edge is recognised at the second consecutive high level after a low one (R102). -/
def sampleSync (c : SyncInput) : SyncInput :=
  { levels := c.levels.drop 1
    previous := nextLevel c.levels
    beforeThat := c.previous
    edgeDue := nextLevel c.levels == .high && c.previous == .high && c.beforeThat == .low }

/-- One tick of REFCLK: the instant and the phase increase by 1, and SYNC is sampled (R86, R102). -/
def tick (s : State) : State :=
  ((s.setNow (s.now + 1)).setTimer { s.timer with phase := s.timer.phase + 1 }).setSync (sampleSync s.sync)

/-! ### Events that have fallen due -/

/-- A downstream member whose expiry has come; of several at one instant the oldest member is first, the model's choice
(R75; assumption log 2). -/
def dueTimeout (s : State) : Option Tag :=
  (s.dport.inFlight.find? fun m => decide (m.expiry ≤ s.now)).map fun m => m.tag

/-- A stale tag whose release has come (R76). Of several whose release falls due at one instant, the one that entered the set
first is released first, and so is the one that the next grant finds free: the model's choice (assumption log 2). -/
def dueRelease (s : State) : Option Tag :=
  (s.dport.stale.find? fun x => decide (x.release ≤ s.now)).map fun x => x.tag

/-- The event that is due, in the fixed order of assumption log 2: what happens "at once" (a departure, R47; a grant,
R78), then what an instant brings (timers, the deadline, the seal point, which R91 puts before a boundary, an edge, the
missing-sync point, the boundary). -/
def dueCommand (s : State) : Option Instr :=
  if (departing s.uport).isSome then some .responseDeparture
  else if canGrant s then some .grant
  else if stallExpired s && (takingHead s.uport).isSome then some .stallTimerExpiry
  else
    match dueTimeout s with
    | some t => some (.downstreamTimeoutExpiry t)
    | none =>
      match dueRelease s with
      | some t => some (.staleTagRelease t)
      | none =>
        if (lateGeneration s).isSome then some .deadlineDue
        else if sealPointDue s then some .sealPoint
        else if s.sync.edgeDue then some .syncEdge
        else if missingSyncDue s then some .missingSyncPoint
        else if boundaryDue s then some .frameBoundary
        else none

end Sys2Proof.Machine
end

