-- ==== Sys2Proof/Safety.lean ====
section
/-! DEFINITION. What it is for a state of the part to be sound: the laws that the rules claim of every state reached, block
by block. Each is a statement about one state; the obligations say that State.reset has it and that every step keeps it. -/

namespace Sys2Proof.Machine

/-! ### Attention Unit and ring -/

/-- ATTNn is asserted while the cause set and the enable set have a cause in common, and released otherwise (R157). -/
def AttentionLaw (s : State) : Prop :=
  s.attention.asserted = attentionPending s.attention

/-- The ring holds at most 16 records, and the read records form its front (R142). -/
def RingLaw (s : State) : Prop :=
  s.ring.length ≤ Config.ringSize ∧ s.ring.Pairwise fun a b => b.isRead = true → a.isRead = true

/-! ### Tags (R72) -/

/-- The tags that are not free: those of the in-flight list and the stale ones. -/
def tagsInUse (d : DPort) : List Tag :=
  (d.inFlight.map fun m => m.tag) ++ d.stale.map fun x => x.tag

/-- No tag is held twice: tags are "distinct within the list", and a tag in use is not allocated (R72). -/
def TagLaw (s : State) : Prop :=
  (tagsInUse s.dport).Nodup

/-! ### U-port (R44, R45, R61) -/

/-- The URQ's bound, the form of its requests, and what a closed port means. -/
structure UPortLaw (s : State) : Prop where
  /-- "The URQ never holds more than 8 requests" (R44). -/
  depth : s.uport.urq.length ≤ Config.urqDepth
  /-- Every request held is of the form of section 4.2 of the overview. -/
  formed : ∀ e ∈ s.uport.urq, e.request.wf = true
  /-- A closed port holds no request and no stall, and its open generation is empty (R60, R61, R139). -/
  closedIsEmpty : s.uport.isOpen = false →
    s.uport.urq = [] ∧ s.uport.issueOrder = [] ∧ s.uport.stall = none ∧ s.store.openBody = none
  /-- The port is open only while SRSTn is high (R61). -/
  openWhileHigh : s.uport.isOpen = true → s.srstn = .high
  /-- Only upstream requests wait in the downstream issue order: READ, WRITE and SPILL (R48, R72). -/
  upstreamOnly : ∀ f ∈ s.uport.issueOrder, isDrain f.origin = false
  /-- The serials stand in acceptance order, so each names one entry (R44; assumption log 10). -/
  serials : (s.uport.urq.map fun e => e.serial).Pairwise (· < ·)
  /-- The next serial is new. -/
  nextIsNew : ∀ e ∈ s.uport.urq, e.serial < s.uport.nextSerial

/-! ### Staging Store (R1 to R4, R11) and Drain Engine (section 4.1) -/

/-- An entry's mask is never empty and its data has eight lanes (R2). -/
def EntryFormed (e : Entry) : Prop :=
  e.lanes.length = 8 ∧ carries e.lanes = true

/-- The open generation and the slots. -/
structure StoreLaw (s : State) : Prop where
  /-- The open entries, the sealed entries held and the free slots make 512 (R1). -/
  slots : openCount s.store + sealedRemaining s.store + freeSlots s.store = Config.slotCount
  /-- An open generation with first-write fields is not empty (R4). -/
  body : ∀ b, s.store.openBody = some b → b.entries ≠ []
  /-- "Creation positions in an open generation are the consecutive numbers 1 to the entry count" (R6). -/
  openPositions : (openEntries s.store).map (fun e => e.position) = List.range' 1 (openCount s.store)
  /-- At most one open entry for a word (R3). -/
  openWords : ((openEntries s.store).map fun e => e.addr).Nodup
  /-- At most one sealed entry for a word (R3). -/
  sealedWords : ((sealedEntries s.store).map fun e => e.entry.addr).Nodup
  /-- Every open entry is formed as R2 says. -/
  openFormed : ∀ e ∈ openEntries s.store, EntryFormed e
  /-- Every sealed entry is formed as R2 says. -/
  sealedFormed : ∀ e ∈ sealedEntries s.store, EntryFormed e.entry
  /-- The window set holds the windows of all entries of the open generation (R4). -/
  openWindows : ∀ b, s.store.openBody = some b → ∀ e ∈ b.entries, b.windowSet.getLsbD e.window.val = true

/-- The creation positions of the drain writes in flight. -/
def drainPositions (d : DPort) : List Nat :=
  d.inFlight.filterMap fun m =>
    match m.origin with
    | .read _ => none
    | .write _ => none
    | .spill _ => none
    | .drain p => some p

/-- The sealed generation of a state with a cursor, and the drain writes in flight. -/
structure SealedLaw (g : SealedGen) (cursor : Nat) (d : DPort) : Prop where
  /-- A sealed generation with no entries has retired (R13, R70). -/
  remaining : g.entries ≠ []
  /-- Drain-done plus dropped plus sealed remaining is the entry count (R11). -/
  counts : g.doneCount + g.droppedCount + g.entries.length = g.entryCount
  /-- The entries stand in creation order. -/
  ordered : (g.entries.map fun e => e.entry.position).Pairwise (· < ·)
  /-- Positions lie in 1 to the entry count. -/
  inRange : ∀ e ∈ g.entries, 1 ≤ e.entry.position ∧ e.entry.position ≤ g.entryCount
  /-- "every entry at or above the cursor is one that has never been issued" (R64), and no other. -/
  neverIssued : ∀ e ∈ g.entries, cursor ≤ e.entry.position ↔ e.drain = .pending ∧ e.retries = 0
  /-- No entry leaves the store before its issue. -/
  allAbove : ∀ p, cursor ≤ p → p ≤ g.entryCount → ∃ e ∈ g.entries, e.entry.position = p
  /-- The cursor lies in 1 to the entry count + 1 (section 4.1). -/
  cursorRange : 1 ≤ cursor ∧ cursor ≤ g.entryCount + 1
  /-- An entry is IN_FLIGHT exactly while its drain write is in the in-flight list (R71, R72). -/
  inFlight : ∀ p, p ∈ drainPositions d ↔ ∃ e ∈ g.entries, e.entry.position = p ∧ e.drain = .inFlight

/-- The Drain Engine against the sealed generation (R63, R70, R71). -/
structure DrainLaw (s : State) : Prop where
  /-- Each entry has at most one drain write in flight. -/
  oneEach : (drainPositions s.dport).Nodup
  /-- Drain writes are never orphans (R77). -/
  noOrphan : ∀ m ∈ s.dport.inFlight, isDrain m.origin = true → m.orphan = false
  /-- With no sealed generation there is no cursor, urgent mode is off, and no drain write is in flight (R63, R71). -/
  absent : s.store.sealedGen = none →
    s.drain.cursor = none ∧ s.drain.urgent = false ∧ drainPositions s.dport = []
  /-- With a sealed generation the cursor is present and its laws hold. -/
  present : ∀ g, s.store.sealedGen = some g → ∃ c, s.drain.cursor = some c ∧ SealedLaw g c s.dport

/-! ### Window Table (R25, R34) -/

/-- Every field of a descriptor holds a value of its range (R25). -/
def DescriptorFormed (d : Descriptor) : Prop :=
  d.base.toNat % Config.pageBytes = 0 ∧ 1 ≤ d.pages ∧ d.pages ≤ 65536

/-- The two tables, and the law of R34: "the active table never holds two enabled windows that share an address". -/
structure WindowLaw (s : State) : Prop where
  activeLength : s.windows.active.length = 16
  shadowLength : s.windows.shadow.length = 16
  activeFormed : ∀ d ∈ s.windows.active, DescriptorFormed d
  shadowFormed : ∀ d ∈ s.windows.shadow, DescriptorFormed d
  noneFails : failingWindow s.windows.active = none

/-! ### Settings (the ranges of section 6 of the overview) -/

/-- The active timing set is valid (R97) whatever TRACK_EN is. -/
structure ActiveSetLaw (t : Timing) : Prop where
  period : 256 ≤ t.period ∧ t.period ≤ 16777215
  sealPhase : t.sealPhase < t.period
  deadline : 1 ≤ t.deadline ∧ t.deadline ≤ t.period

/-- Each shadow timing item holds a value of its range, judged on the one item alone (R95). -/
structure ShadowSetLaw (t : Timing) : Prop where
  period : 256 ≤ t.period ∧ t.period ≤ 16777215
  sealPhase : t.sealPhase ≤ 16777214
  deadline : 1 ≤ t.deadline ∧ t.deadline ≤ 16777215

/-- Ranges of the tracker parameters (R104). -/
structure ParameterLaw (t : Tracker) : Prop where
  tolerances : t.tolNarrow ≤ t.tolWide ∧ 1 ≤ t.tolWide ∧ t.tolWide ≤ 65535
  nAcq : 1 ≤ t.nAcq ∧ t.nAcq ≤ 15
  nLock : 1 ≤ t.nLock ∧ t.nLock ≤ 255
  holdoverLimit : t.holdoverLimit ≤ 255

/-- Each setting holds a value of its range, and so do the share counter and the hold frame count. TRACK_EN, GATE, LATE_SEAL
and the enable set have no value out of range. -/
structure SettingsLaw (s : State) : Prop where
  stallLimit : s.uport.stallLimit ≤ 65535
  dsTimeout : 1 ≤ s.dport.dsTimeout ∧ s.dport.dsTimeout ≤ 65535
  retryLimit : s.dport.retryLimit ≤ 3
  drainShare : 1 ≤ s.dport.drainShare ∧ s.dport.drainShare ≤ 15
  shareCounter : s.dport.shareCounter ≤ Config.shareMax
  holdLimit : 1 ≤ s.sealing.holdLimit ∧ s.sealing.holdLimit ≤ 255
  /-- A hold in progress has seen fewer boundaries than 255 (R122, R133). -/
  holdCount : s.sealing.holdCount ≤ 255 ∧ (s.sealing.hold = .held → s.sealing.holdCount < 255)
  activeSet : ActiveSetLaw s.timer.active
  shadowSet : ShadowSetLaw s.timer.shadow
  parameters : ParameterLaw s.tracker

/-! ### Frame Timer and Sync Tracker (R86 to R120) -/

/-- In TRACK and LOCKED the time since the reference equals the phase, and neither passes PERIOD + TOL_WIDE (R114, R88);
Plast is that of a good interval (R117). -/
def DrivenLaw (s : State) : Prop :=
  ∃ r, s.tracker.reference = some r ∧ r + s.timer.phase = s.now ∧
    s.timer.phase ≤ s.timer.active.period + s.tracker.tolWide ∧
    s.tracker.tolWide < s.tracker.plast ∧ s.tracker.plast ≤ 16842750

/-- What each tracker state means for the reference, the counts and the phase (R88, R103, R110, R112, R114, R115). -/
def TrackerStateLaw (s : State) : Prop :=
  match s.tracker.state with
  | .free =>
    s.tracker.trackEn = false ∧ s.tracker.reference = none ∧ s.timer.phase ≤ s.timer.active.period
  | .acquire =>
    s.tracker.trackEn = true ∧ (∀ r, s.tracker.reference = some r → r ≤ s.now) ∧
      s.tracker.goodCount < s.tracker.nAcq ∧ s.timer.phase ≤ s.timer.active.period
  | .track => s.tracker.trackEn = true ∧ DrivenLaw s ∧ s.tracker.lockCount < s.tracker.nLock
  | .locked => s.tracker.trackEn = true ∧ DrivenLaw s ∧ s.tracker.lockCount = s.tracker.nLock
  | .holdover =>
    s.tracker.trackEn = true ∧ (∃ r, s.tracker.reference = some r ∧ r ≤ s.now) ∧
      s.tracker.holdoverCount < s.tracker.holdoverLimit ∧ s.timer.phase ≤ s.tracker.plast ∧
      s.tracker.tolWide < s.tracker.plast ∧ s.tracker.plast ≤ 16842750

/-- The timer and the tracker together. -/
structure TimingLaw (s : State) : Prop where
  activeSet : ActiveSetLaw s.timer.active
  parameters : ParameterLaw s.tracker
  /-- "P is always above 2 × TOL_WIDE while the tracker is enabled" (R107). -/
  enabled : s.tracker.trackEn = true → 2 * s.tracker.tolWide < s.timer.active.period
  states : TrackerStateLaw s

/-! ### The words of the statements -/

/-- The receiver awaits the CRC byte of a command's frame, its code and parameters in the buffer (R172). -/
abbrev Awaits (s : State) (i : Instr) : Prop :=
  s.management.rx = .awaitCrc ∧ commandBytes i = some s.management.buffer

/-- The state after a management command: what the execution left, its reply in the slot, the receiver in DONE, and one
more byte of the outgoing stream clocked (R172, R176). -/
def replied (t : State) (reply : Option (List Byte)) : State :=
  t.setManagement { t.management with slot := reply, rx := .done, clocked := t.management.clocked + 1 }

/-- The taking head may be taken: the port is open, no stall holds it, and no unissued spill write does (R46). -/
abbrev CanTake (s : State) (e : UrqEntry) : Prop :=
  takingHead s.uport = some e ∧ s.uport.isOpen = true ∧ s.uport.stall = none ∧ spillOrderedHold s e = false

/-- The U-port after one request is taken: its entry changed, what it forwards at the end of the issue order, no
hold. -/
def portAfterTaking (u : UPort) (serial : Nat) (f : UrqEntry → UrqEntry) (forwards : List Forward) : UPort :=
  { u with urq := updateUrq serial f u.urq, issueOrder := u.issueOrder ++ forwards, stall := none,
           spillHeld := false }

/-- The byte that a WRITE carries for an address, where its mask names it. -/
def writeByte (r : Request) (a : Word) : Option Byte :=
  ((writeWords r).find? fun p => p.1 == wordAddr a).bind fun p => laneAt p.2 a

/-- The ring with one more record: "appended at the tail with its read mark unread", the head leaving a ring of 16
(R143, R144). -/
def ringWith (ring : List RingEntry) (r : CommitRecord) : List RingEntry :=
  (if 16 ≤ ring.length then ring.drop 1 else ring) ++ [{ record := r, isRead := false }]

/-- Steps 3 to 5 of R108 on the state that steps 1 and 2 leave: the tracker changes, its causes are raised in order, and an
opening of the commit gate is a permission-return moment. -/
def trackerChanged (b : State) (t : Tracker) (causes : List Cause) : State :=
  let changed := causes.foldl (fun acc c => raiseCause c acc) (b.setTracker t)
  if gateOpen b = false ∧ gateOpen changed = true then permissionReturn changed else changed

/-- Two tick counts differ by at most a tolerance (R107). -/
abbrev Within (i p tol : Nat) : Prop :=
  p ≤ i + tol ∧ i ≤ p + tol

/-- A 16-bit or 32-bit field is sent most significant byte first (R189). -/
abbrev BigEndian : Prop :=
  (∀ v : Half, bytes16 v = [v.extractLsb' 8 8, v.extractLsb' 0 8]) ∧
  ∀ v : Word, bytes32 v = [v.extractLsb' 24 8, v.extractLsb' 16 8, v.extractLsb' 8 8, v.extractLsb' 0 8]

/-- The values of the items that hold more than one field, bit by bit, the reserved bits reading 0 (R190). A count that its
rules bound is taken within its bound. -/
structure FieldEncoding (s : State) : Prop where
  policyBits : ∀ d : Descriptor, let v := windowItemValue d .policyView
    (d.policy = .stall → v.extractLsb' 0 2 = 0#2) ∧ (d.policy = .reject → v.extractLsb' 0 2 = 1#2) ∧
    (d.policy = .spill → v.extractLsb' 0 2 = 2#2) ∧ v.getLsbD 8 = decide (d.view = .committed) ∧
    v.extractLsb' 2 6 = 0#6 ∧ v.extractLsb' 9 23 = 0#23
  applyBits : let v := itemValue s .applyOutcome
    v.getLsbD 0 = decide (s.windows.applyState = .armed) ∧
    (s.windows.lastOutcome = .noOutcome → v.extractLsb' 8 3 = 0#3 ∧ v.extractLsb' 16 4 = 0#4) ∧
    (s.windows.lastOutcome = .applied → v.extractLsb' 8 3 = 1#3 ∧ v.extractLsb' 16 4 = 0#4) ∧
    (∀ w : Window, s.windows.lastOutcome = .refusedLimit w →
      v.extractLsb' 8 3 = 2#3 ∧ v.extractLsb' 16 4 = BitVec.ofNat 4 w.val) ∧
    (∀ w : Window, s.windows.lastOutcome = .refusedOverlap w →
      v.extractLsb' 8 3 = 3#3 ∧ v.extractLsb' 16 4 = BitVec.ofNat 4 w.val) ∧
    (s.windows.lastOutcome = .cancelled → v.extractLsb' 8 3 = 4#3 ∧ v.extractLsb' 16 4 = 0#4) ∧
    v.extractLsb' 1 7 = 0#7 ∧ v.extractLsb' 11 5 = 0#5 ∧ v.extractLsb' 20 12 = 0#12
  windowCountBits : ∀ w : Window,
    let opened := (openEntries s.store).countP fun e => e.window == w
    let drained := (sealedEntries s.store).countP fun e => e.entry.window == w
    opened ≤ 512 → drained ≤ 512 →
    let v := itemValue s (.windowCounts w)
    v.extractLsb' 16 10 = BitVec.ofNat 10 opened ∧ v.extractLsb' 0 10 = BitVec.ofNat 10 drained ∧
    v.extractLsb' 10 6 = 0#6 ∧ v.extractLsb' 26 6 = 0#6
  lockBits : s.tracker.goodCount ≤ 15 → s.tracker.lockCount ≤ 255 →
    let v := itemValue s .goodAndLock
    v.extractLsb' 8 4 = BitVec.ofNat 4 s.tracker.goodCount ∧
    v.extractLsb' 0 8 = BitVec.ofNat 8 s.tracker.lockCount ∧ v.extractLsb' 12 20 = 0#20
  sealBits : s.sealing.holdCount ≤ 255 →
    let v := itemValue s .sealState
    v.getLsbD 0 = decide (s.sealing.hold = .held) ∧ v.extractLsb' 8 8 = BitVec.ofNat 8 s.sealing.holdCount ∧
    v.getLsbD 16 = s.sealing.expired ∧ v.getLsbD 17 = s.sealing.owed ∧ v.getLsbD 18 = s.sealing.commitNow ∧
    v.extractLsb' 1 7 = 0#7 ∧ v.extractLsb' 19 13 = 0#13
  windowSetBits : ∀ w : Window, (itemValue s .faultSet).getLsbD w.val = decide (runStateOf s.windows w = .faulted)
  causeBits : ∀ p ∈ [(Cause.commitDone, 0), (.commitLate, 1), (.drainDrop, 2), (.overrun, 3), (.aborted, 4),
      (.holdExpired, 5), (.lockGained, 6), (.lockLost, 7), (.holdoverExhausted, 8), (.tableApplied, 9),
      (.tableRefused, 10), (.timingRefused, 11), (.writeRefused, 12), (.stallTimeout, 13), (.downstreamTimeout, 14),
      (.warmReset, 15)],
    (itemValue s .causeSet).getLsbD p.2 = inCauseSet s.attention.causes p.1 ∧
    (itemValue s .enableSet).getLsbD p.2 = inCauseSet s.attention.enabled p.1
  setsReserved : (itemValue s .faultSet).extractLsb' 16 16 = 0#16 ∧ (itemValue s .causeSet).extractLsb' 16 16 = 0#16 ∧
    (itemValue s .enableSet).extractLsb' 16 16 = 0#16

/-- The values of the items that hold one number or one code (R190). -/
structure NumberEncoding (s : State) : Prop where
  device : itemValue s .deviceId = 0x46480416#32
  windows : ∀ w : Window,
    let d : Descriptor := s.windows.shadow.getD w.val Descriptor.reset
    let a : Descriptor := s.windows.active.getD w.val Descriptor.reset
    itemValue s (.shadowWindow w .base) = d.base ∧ itemValue s (.activeWindow w .base) = a.base ∧
    itemValue s (.shadowWindow w .pages) = BitVec.ofNat 32 d.pages ∧
    itemValue s (.activeWindow w .pages) = BitVec.ofNat 32 a.pages ∧
    itemValue s (.shadowWindow w .policyView) = windowItemValue d .policyView ∧
    itemValue s (.activeWindow w .policyView) = windowItemValue a .policyView ∧
    itemValue s (.shadowWindow w .enable) = (if d.enable then 1#32 else 0#32) ∧
    itemValue s (.activeWindow w .enable) = (if a.enable then 1#32 else 0#32)
  timing :
    itemValue s (.shadowTiming .period) = BitVec.ofNat 32 s.timer.shadow.period ∧
    itemValue s (.shadowTiming .sealPhase) = BitVec.ofNat 32 s.timer.shadow.sealPhase ∧
    itemValue s (.shadowTiming .deadline) = BitVec.ofNat 32 s.timer.shadow.deadline ∧
    itemValue s (.activeTiming .period) = BitVec.ofNat 32 s.timer.active.period ∧
    itemValue s (.activeTiming .sealPhase) = BitVec.ofNat 32 s.timer.active.sealPhase ∧
    itemValue s (.activeTiming .deadline) = BitVec.ofNat 32 s.timer.active.deadline ∧
    itemValue s .frameNumber = s.timer.frame ∧ itemValue s .phase = BitVec.ofNat 32 s.timer.phase
  parameters :
    itemValue s .trackEn = (if s.tracker.trackEn then 1#32 else 0#32) ∧
    itemValue s (.trackerParam .tolNarrow) = BitVec.ofNat 32 s.tracker.tolNarrow ∧
    itemValue s (.trackerParam .tolWide) = BitVec.ofNat 32 s.tracker.tolWide ∧
    itemValue s (.trackerParam .nAcq) = BitVec.ofNat 32 s.tracker.nAcq ∧
    itemValue s (.trackerParam .nLock) = BitVec.ofNat 32 s.tracker.nLock ∧
    itemValue s (.trackerParam .holdoverLimit) = BitVec.ofNat 32 s.tracker.holdoverLimit ∧
    (s.tracker.gate = .any → itemValue s .gate = 0#32) ∧ (s.tracker.gate = .lockedOnly → itemValue s .gate = 1#32) ∧
    (s.tracker.gate = .lockedOrHoldover → itemValue s .gate = 2#32)
  tracker :
    (s.tracker.state = .free → itemValue s .trackerState = 0#32) ∧
    (s.tracker.state = .acquire → itemValue s .trackerState = 1#32) ∧
    (s.tracker.state = .track → itemValue s .trackerState = 2#32) ∧
    (s.tracker.state = .locked → itemValue s .trackerState = 3#32) ∧
    (s.tracker.state = .holdover → itemValue s .trackerState = 4#32) ∧
    itemValue s .lastInterval = BitVec.ofNat 32 s.tracker.lastInterval ∧
    itemValue s .holdoverCount = BitVec.ofNat 32 s.tracker.holdoverCount
  sealing :
    itemValue s .holdLimit = BitVec.ofNat 32 s.sealing.holdLimit ∧
    itemValue s .lateSeal = (if s.sealing.lateSeal = .nextPoint then 1#32 else 0#32)
  store :
    itemValue s .openGen = s.store.openNumber ∧
    itemValue s .openCount = BitVec.ofNat 32 (openEntries s.store).length ∧
    itemValue s .sealedGen = (s.store.sealedGen.map fun g => g.number).getD 0#32 ∧
    itemValue s .sealedRemaining = BitVec.ofNat 32 (sealedEntries s.store).length ∧
    itemValue s .freeSlots = BitVec.ofNat 32 (512 - ((openEntries s.store).length + (sealedEntries s.store).length))
  ports :
    itemValue s .stallLimit = BitVec.ofNat 32 s.uport.stallLimit ∧
    itemValue s .dsTimeout = BitVec.ofNat 32 s.dport.dsTimeout ∧
    itemValue s .retryLimit = BitVec.ofNat 32 s.dport.retryLimit ∧
    itemValue s .drainShare = BitVec.ofNat 32 s.dport.drainShare
  records :
    itemValue s .recordsUnread = BitVec.ofNat 32 (s.ring.countP fun e => !e.isRead) ∧
    itemValue s .recordsHeld = BitVec.ofNat 32 s.ring.length

/-- The 48 bytes of a commit record by their offsets (R191). -/
structure RecordLayout (r : CommitRecord) (bs : List Byte) : Prop where
  length : bs.length = 48
  number : (bs.drop 0).take 4 = bytes32 r.number
  outcome :
    (r.outcome = .complete → bs[4]? = some 0x00#8) ∧ (r.outcome = .partlyDropped → bs[4]? = some 0x01#8) ∧
    (r.outcome = .aborted → bs[4]? = some 0x02#8) ∧ (r.outcome = .resetDiscarded → bs[4]? = some 0x03#8)
  flags : ∃ b : Byte, bs[5]? = some b ∧ b.getLsbD 0 = r.late ∧ b.getLsbD 1 = r.sealFields.isSome ∧
    b.extractLsb' 2 6 = 0#6
  counts :
    (bs.drop 8).take 2 = bytes16 (BitVec.ofNat 16 r.entryCount) ∧
    (bs.drop 10).take 2 = bytes16 (BitVec.ofNat 16 r.byteCount) ∧
    (bs.drop 12).take 2 = bytes16 (BitVec.ofNat 16 r.droppedCount)
  windowSet : (bs.drop 14).take 2 = bytes16 r.windowSet
  stamps :
    (bs.drop 16).take 4 = bytes32 r.firstWrite.frame ∧
    (bs.drop 20).take 4 = bytes32 (BitVec.ofNat 32 r.firstWrite.phase) ∧
    (bs.drop 24).take 4 = bytes32 r.lastWrite.frame ∧
    (bs.drop 28).take 4 = bytes32 (BitVec.ofNat 32 r.lastWrite.phase)
  deferral : (bs.drop 32).take 4 = bytes32 (BitVec.ofNat 32 r.deferral)
  sealAbsent : r.sealFields = none →
    bs[6]? = some 0xFF#8 ∧ bs[7]? = some 0xFF#8 ∧ bs.drop 36 = List.replicate 12 0x00#8
  sealCause : ∀ f, r.sealFields = some f →
    (f.cause = .sealPoint → bs[6]? = some 0x00#8) ∧ (f.cause = .shortFrame → bs[6]? = some 0x01#8) ∧
    (f.cause = .owed → bs[6]? = some 0x02#8) ∧ (f.cause = .commitNow → bs[6]? = some 0x03#8)
  sealTracker : ∀ f, r.sealFields = some f →
    (f.tracker = .free → bs[7]? = some 0x00#8) ∧ (f.tracker = .acquire → bs[7]? = some 0x01#8) ∧
    (f.tracker = .track → bs[7]? = some 0x02#8) ∧ (f.tracker = .locked → bs[7]? = some 0x03#8) ∧
    (f.tracker = .holdover → bs[7]? = some 0x04#8)
  sealStamp : ∀ f, r.sealFields = some f →
    (bs.drop 36).take 4 = bytes32 f.stamp.frame ∧
    (bs.drop 40).take 4 = bytes32 (BitVec.ofNat 32 f.stamp.phase) ∧
    (bs.drop 44).take 4 = bytes32 (BitVec.ofNat 32 f.drainTicks)

/-! ### The whole part -/

/-- A sound state: every law at once. -/
structure Sound (s : State) : Prop where
  attention : AttentionLaw s
  ring : RingLaw s
  tags : TagLaw s
  uport : UPortLaw s
  store : StoreLaw s
  drain : DrainLaw s
  windows : WindowLaw s
  settings : SettingsLaw s
  timing : TimingLaw s

end Sys2Proof.Machine
end

