-- ==== Sys2Proof/Certificates/Slice0/Obligations.lean ====
section
/-! DEFINITION. The statements for the provers, in the order of OBLIGATIONS.json. Each result is written as the state that
the rule gives, by the fields that change; a field that is not named is unchanged. -/

section Statements

open Sys2Proof Sys2Proof.Machine

/-! ### The machine -/

/-- A step with a command waiting is that command's execution on the state with the queue's rest (assumption log 1). -/
def Obligations.StepRunsFrontCommand : Prop :=
  ∀ (c : Instr) (rest : List Instr) (s : State), s.pending = c :: rest → step s = exec c (s.setPending rest)

/-- With no command waiting, an event that is due is executed; when none is, one tick passes: the instant and the phase
increase by 1 and SYNC is sampled, an edge being recognised at the second high sample after a low one
(assumption log 2 and 12; R86, R102). -/
def Obligations.IdleStepRunsDueEventElseTicks : Prop :=
  ∀ s : State, s.pending = [] →
    (∀ c, dueCommand s = some c → step s = exec c s) ∧
    (dueCommand s = none →
      step s = .next
        (((s.setNow (s.now + 1)).setTimer { s.timer with phase := s.timer.phase + 1 }).setSync
          { levels := s.sync.levels.drop 1
            previous := s.sync.levels.headD .low
            beforeThat := s.sync.previous
            edgeDue := decide (s.sync.levels.headD .low = .high ∧ s.sync.previous = .high ∧
              s.sync.beforeThat = .low) }))

/-- Time never passes an event: where a tick is next, no response can leave, no grant can be made, no timer has come, no
edge waits, and no seal point, missing-sync point or boundary is due (assumption log 2). -/
def Obligations.NoTickPassesADueEvent : Prop :=
  ∀ s : State, dueCommand s = none →
    departing s.uport = none ∧
    (lowestFreeTag s.dport = none ∨ passOffer s = none ∧ drainOffer s = none) ∧
    (∀ d, s.uport.stall = some { due := some d } → takingHead s.uport ≠ none → s.now < d) ∧
    (∀ m ∈ s.dport.inFlight, s.now < m.expiry) ∧
    (∀ x ∈ s.dport.stale, s.now < x.release) ∧
    (∀ g, s.store.sealedGen = some g → g.late = false → s.now < g.deadline) ∧
    s.sync.edgeDue = false ∧
    (s.timer.offered = false → s.timer.phase ≠ s.timer.active.sealPhase) ∧
    (∀ r, s.tracker.state ∈ [TrackerState.acquire, .track, .locked] → s.tracker.reference = some r →
      s.now < r + s.timer.active.period + s.tracker.tolWide) ∧
    (s.tracker.state ∈ [TrackerState.free, .acquire] → s.timer.phase < s.timer.active.period) ∧
    (s.tracker.state = .holdover → s.timer.phase < s.tracker.plast)

/-- No command's execution touches the queue (assumption log 1). -/
def Obligations.CommandsLeaveTheQueue : Prop :=
  ∀ (i : Instr) (s t : State), exec i s = .next t → t.pending = s.pending

/-- What stops, and nothing else does: a LATE-EDGE at SYNC_EDGE in TRACK or LOCKED, which R107 excludes (assumption log 8).
Every other command answers a next state, whatever its operands and whatever the state. -/
def Obligations.StopsAreOnlyThoseNamed : Prop :=
  ∀ (i : Instr) (s : State),
    (∀ f, exec i s = .fault f → i = .syncEdge ∧ f = .lateEdgeInTrack ∧
      (s.tracker.state = .track ∨ s.tracker.state = .locked) ∧
      ∃ r, s.tracker.reference = some r ∧ s.timer.active.period ≤ s.now - r ∧
        ¬Within (s.now - r) s.timer.active.period s.tracker.tolWide) ∧
    (∀ r, exec i s ≠ .refused r) ∧
    (i ≠ .syncEdge ∨ (s.tracker.state ≠ .track ∧ s.tracker.state ≠ .locked) → ∃ t, exec i s = .next t)

/-- The state after power-on reset, from whatever state and with the two pins at whatever levels. The model's choice, not the
spec's, are: the serial counter 0 (assumption log 10), the two empty lists of what was sent (log 11), the two high samples
of SYNC (log 12), the SYNC levels and commands that stay (log 13), the instant 0 (log 14), and the count of draws that
stays (log 24). -/
def Obligations.PowerOnResetState : Prop :=
  ∀ (srstn mcsn : Level) (s : State),
    exec (.powerOnReset srstn mcsn) s = .next
      { now := 0
        srstn := srstn
        sync := { levels := s.sync.levels, previous := .high, beforeThat := .high, edgeDue := false }
        store := { openNumber := 1#32, openBody := none, sealedGen := none }
        windows :=
          { active := List.replicate 16
              { enable := false, base := 0#32, pages := 1, policy := .stall, view := .latest }
            shadow := List.replicate 16
              { enable := false, base := 0#32, pages := 1, policy := .stall, view := .latest }
            applyState := .idle, lastOutcome := .noOutcome, faultSet := 0#16 }
        uport :=
          { urq := [], issueOrder := [], stall := none, spillHeld := false, isOpen := decide (srstn = .high),
            stallLimit := 1024, nextSerial := 0, sent := [] }
        drain := { cursor := none, urgent := false }
        dport :=
          { inFlight := [], stale := [], shareCounter := 0, dsTimeout := 256, retryLimit := 1, drainShare := 4,
            sent := [] }
        timer :=
          { phase := 0, frame := 0#32, offered := false
            active := { period := 50000, sealPhase := 45000, deadline := 4000 }
            shadow := { period := 50000, sealPhase := 45000, deadline := 4000 }
            refusalMark := false }
        tracker :=
          { state := .free, reference := none, goodCount := 0, lockCount := 0, lastInterval := 0, plast := 0,
            holdoverCount := 0, trackEn := false, tolNarrow := 50, tolWide := 500, nAcq := 4, nLock := 32,
            holdoverLimit := 8, gate := .any }
        sealing :=
          { hold := .notHeld, holdCount := 0, expired := false, owed := false, commitNow := false, holdLimit := 4,
            lateSeal := .immediate }
        ring := []
        attention := { causes := 0#16, enabled := 0#16, asserted := false }
        management :=
          { rx := .idle, buffer := [], slot := none, outgoing := none, clocked := 0, lastFrameError := false,
            mcsn := mcsn }
        drawn := s.drawn
        pending := s.pending }

/-- The power-on Window Table classifies every request pass-through (R42). -/
def Obligations.PowerOnWindowTable : Prop :=
  ∀ (srstn mcsn : Level) (s : State), ∃ t, exec (.powerOnReset srstn mcsn) s = .next t ∧
    t.windows.active.length = 16 ∧ t.windows.shadow.length = 16 ∧
    (∀ d, d ∈ t.windows.active ∨ d ∈ t.windows.shadow →
      d.enable = false ∧ d.base = 0#32 ∧ d.pages = 1 ∧ d.policy = .stall ∧ d.view = .latest) ∧
    t.windows.applyState = .idle ∧ t.windows.lastOutcome = .noOutcome ∧
    (∀ w, runStateOf t.windows w = .normal) ∧ t.windows.faultSet = 0#16 ∧
    ∀ a, classify t.windows a = .passThrough

/-- Every law holds at reset. -/
def Obligations.SoundAtReset : Prop :=
  Sound State.reset

/-! ### Laws that every step keeps -/

/-- ATTNn follows the two sets (R157). -/
def Obligations.AttentionLawIsKept : Prop :=
  ∀ s t : State, AttentionLaw s → step s = .next t → AttentionLaw t

/-- The ring holds at most 16 records, the read ones in front (R142). -/
def Obligations.RingLawIsKept : Prop :=
  ∀ s t : State, RingLaw s → step s = .next t → RingLaw t

/-- No tag is in use twice (R72). -/
def Obligations.TagLawIsKept : Prop :=
  ∀ s t : State, TagLaw s → step s = .next t → TagLaw t

/-- The tables keep their form, and the active table holds no two enabled windows that share an address (R25, R34). -/
def Obligations.WindowLawIsKept : Prop :=
  ∀ s t : State, WindowLaw s → step s = .next t → WindowLaw t

/-- Every setting stays within its range: the active and shadow timing sets (R95, R97), the tracker parameters (R104), and
the parameters of R81, R133 and R186, with the share counter (R79) and the hold frame count (R122). -/
def Obligations.SettingsLawIsKept : Prop :=
  ∀ s t : State, SettingsLaw s → step s = .next t → SettingsLaw t

/-- The U-port's law (R44, R45, R60, R61). Two of its clauses rest on the model's choice: that every request held is of the
form of 00_scope.md 4.2, whatever arrives (assumption log 6), and the serials (assumption log 10). -/
def Obligations.UPortLawIsKept : Prop :=
  ∀ s t : State, UPortLaw s → step s = .next t → UPortLaw t

/-- The Staging Store's law (R1 to R6). -/
def Obligations.StoreLawIsKept : Prop :=
  ∀ s t : State, UPortLaw s → StoreLaw s → step s = .next t → StoreLaw t

/-- The Drain Engine's law (R11, R63, R64, R71, R72). -/
def Obligations.DrainLawIsKept : Prop :=
  ∀ s t : State, TagLaw s → UPortLaw s → StoreLaw s → DrainLaw s → step s = .next t → DrainLaw t

/-- The law of the Frame Timer and the Sync Tracker (R88, R97, R103, R107, R114). -/
def Obligations.TimingLawIsKept : Prop :=
  ∀ s t : State, TimingLaw s → step s = .next t → TimingLaw t

/-- Where the timing law holds, no edge is a LATE-EDGE in TRACK or LOCKED: no step faults (R107). -/
def Obligations.TimingLawExcludesTheFault : Prop :=
  ∀ (s : State) (f : Fault), TimingLaw s → step s ≠ .fault f

/-! ### Encodings -/

/-- The bytes of every management command's frame decode to that command, and their number is the one that the command
table fixes for the code; the code and the parameters are those of the command table (section 10.9), a write of an item
with a row of its own being a WRITE_ITEM frame with that item's number (R184). -/
def Obligations.CommandFramesRoundTrip : Prop :=
  (∀ (i : Instr) (bs : List Byte), i.wf = true → commandBytes i = some bs →
    commandOfBytes bs = some i ∧ ∃ code params, bs = code :: params ∧ paramCount code = some params.length) ∧
  BigEndian ∧
  commandBytes .nop = some [0x00#8] ∧
  (∀ item count, commandBytes (.readItem item count) = some ([0x01#8] ++ bytes16 item ++ [count])) ∧
  (∀ item v, commandBytes (.writeItem item v) = some ([0x02#8] ++ bytes16 item ++ bytes32 v)) ∧
  commandBytes .readRecord = some [0x03#8] ∧
  (∀ mask, commandBytes (.ackAttn mask) = some ([0x04#8] ++ bytes32 mask)) ∧
  commandBytes .hold = some [0x08#8] ∧ commandBytes .release = some [0x09#8] ∧
  commandBytes .commitNow = some [0x0A#8] ∧ commandBytes .abortOpen = some [0x0B#8] ∧
  commandBytes .applyTable = some [0x0C#8] ∧ commandBytes .cancelApply = some [0x0D#8] ∧
  (∀ index, commandBytes (.clearFault index) = some [0x0E#8, index]) ∧
  (∀ a, commandBytes (.queryWord a) = some ([0x10#8] ++ bytes32 a)) ∧
  (∀ w f v, commandBytes (.shadowWindowWrite w f v) =
    commandBytes (.writeItem (BitVec.ofNat 16 (itemNumber (.shadowWindow w f))) v)) ∧
  (∀ q v, commandBytes (.shadowTimingWrite q v) =
    commandBytes (.writeItem (BitVec.ofNat 16 (itemNumber (.shadowTiming q))) v)) ∧
  (∀ p v, commandBytes (.trackerParameterWrite p v) =
    commandBytes (.writeItem (BitVec.ofNat 16 (itemNumber (.trackerParam p))) v)) ∧
  commandBytes .trackEnEnable = commandBytes (.writeItem 0x00C0#16 1#32) ∧
  commandBytes .trackEnDisable = commandBytes (.writeItem 0x00C0#16 0#32) ∧
  (∀ v, commandBytes (.gateWrite v) = commandBytes (.writeItem 0x00C6#16 v)) ∧
  ∀ v, commandBytes (.enableSetWrite v) = commandBytes (.writeItem 0x0111#16 v)

/-- The item map: a number is an item's exactly if it is that item's number, and the numbers are those of the item map
(section 10.9). -/
def Obligations.ItemNumbersRoundTrip : Prop :=
  (∀ (n : Nat) (it : Item), itemOfNumber n = some it ↔ n = itemNumber it) ∧
  (∀ w : Window, ∀ p ∈ [(WindowField.base, 0), (.pages, 1), (.policyView, 2), (.enable, 3)],
    itemNumber (.shadowWindow w p.1) = 0x0010 + 4 * w.val + p.2 ∧
    itemNumber (.activeWindow w p.1) = 0x0050 + 4 * w.val + p.2) ∧
  (∀ w : Window, itemNumber (.windowCounts w) = 0x00A0 + w.val) ∧
  (∀ p ∈ [(Item.deviceId, 0x0000), (.faultSet, 0x0090), (.applyOutcome, 0x0091), (.shadowTiming .period, 0x00B0),
      (.shadowTiming .sealPhase, 0x00B1), (.shadowTiming .deadline, 0x00B2), (.activeTiming .period, 0x00B4),
      (.activeTiming .sealPhase, 0x00B5), (.activeTiming .deadline, 0x00B6), (.trackEn, 0x00C0),
      (.trackerParam .tolNarrow, 0x00C1), (.trackerParam .tolWide, 0x00C2), (.trackerParam .nAcq, 0x00C3),
      (.trackerParam .nLock, 0x00C4), (.trackerParam .holdoverLimit, 0x00C5), (.gate, 0x00C6)],
    itemNumber p.1 = p.2) ∧
  ∀ p ∈ [(Item.trackerState, 0x00C8), (.goodAndLock, 0x00C9), (.lastInterval, 0x00CA), (.holdoverCount, 0x00CB),
      (.frameNumber, 0x00D0), (.phase, 0x00D1), (.holdLimit, 0x00E0), (.lateSeal, 0x00E1), (.sealState, 0x00E2),
      (.openGen, 0x00F0), (.openCount, 0x00F1), (.sealedGen, 0x00F2), (.sealedRemaining, 0x00F3),
      (.freeSlots, 0x00F4), (.stallLimit, 0x0100), (.dsTimeout, 0x0101), (.retryLimit, 0x0102),
      (.drainShare, 0x0103), (.causeSet, 0x0110), (.enableSet, 0x0111), (.recordsUnread, 0x0120),
      (.recordsHeld, 0x0121)],
    itemNumber p.1 = p.2

/-- The example values of R175, the step of the register, and the residue 0 of a message followed by its CRC. -/
def Obligations.CrcOfAMessage : Prop :=
  crc8 [0x00#8] = 0x00#8 ∧ crc8 [0x03#8] = 0x09#8 ∧ crc8 [0x08#8] = 0x38#8 ∧ crc8 [0x09#8] = 0x3F#8 ∧
  crc8 [0x0A#8] = 0x36#8 ∧ crc8 [0x01#8, 0x00#8, 0xF0#8, 0x05#8] = 0x19#8 ∧ crc8 [0x01#8, 0x00#8] = 0x15#8 ∧
  crc8 [0x01#8, 0x07#8] = 0x00#8 ∧ crc8 [] = 0x00#8 ∧
  (∀ r : Byte, crcShift r = if r.getLsbD 7 then (r <<< 1) ^^^ 0x07#8 else r <<< 1) ∧
  (∀ (bs : List Byte) (b : Byte), crc8 (bs ++ [b]) =
    (crcShift ∘ crcShift ∘ crcShift ∘ crcShift ∘ crcShift ∘ crcShift ∘ crcShift ∘ crcShift) (crc8 bs ^^^ b)) ∧
  ∀ bs : List Byte, crc8 (bs ++ [crc8 bs]) = 0x00#8

/-! ### Upstream commands -/

/-- REQUEST_ARRIVAL (R44, R45). The serial counter, which an acceptance moves on, is the model's own (assumption log 10). A
request q is recorded. It is the request r that arrives where r is of the form of 00_scope.md 4.2. Where r is not, q is
some request of that form with the kind and start address of r, and with its length and data where they are of that form:
the rest is free (assumption log 6), and the count of draws moves on (assumption log 24). -/
def Obligations.RequestArrivalIsAcceptedOrWithheld : Prop :=
  ∀ (r : Request) (s : State),
    (s.uport.isOpen = true → s.uport.urq.length < 8 → ∃ q : Request,
      exec (.requestArrival r) s = .next
        ((s.setUport
          { s.uport with
            urq := s.uport.urq ++
              [{ serial := s.uport.nextSerial, request := q, phase := .waiting, classification := none,
                 snapshot := none, response := none }]
            nextSerial := s.uport.nextSerial + 1 }).setDrawn (if r.wf then s.drawn else s.drawn + 1)) ∧
      (r.wf = true → q = r) ∧
      q.wf = true ∧ q.addr = r.addr ∧ (q.payload = .read ↔ r.payload = .read) ∧
      (r.len.fits r.addr = true → q.len = r.len) ∧
      (payloadWf r.addr q.len r.payload = true → q.payload = r.payload)) ∧
    (s.uport.isOpen = false ∨ 8 ≤ s.uport.urq.length → exec (.requestArrival r) s = .next s)

/-- The classification of an address (R26; under the law of R34 at most one window covers it), the spill-ordered hold (R46,
R56), TAKING of a request classified pass-through (R46, R48), as any attempt at it is (R53), and the cases in which nothing is taken (R46, R61), where an
attempt that finds the head spill-ordered is noted for the issue (R56). That the hold is judged by the table of the moment,
also for a head found held before, is the model's choice (assumption log 26). -/
def Obligations.TakingPassThroughOrHeld : Prop :=
  ∀ s : State,
    (∀ a : Word,
      let d (w : Window) : Descriptor := s.windows.active.getD w.val Descriptor.reset
      let inside (w : Window) : Prop := (d w).enable = true ∧ (d w).base.toNat ≤ a.toNat ∧
        a.toNat < (d w).base.toNat + (d w).pages * 4096
      let staged (w : Window) : Classification := .staged w (d w).policy (d w).view (runStateOf s.windows w)
      (classify s.windows a = .passThrough ↔ ∀ w, ¬inside w) ∧
      (classify s.windows a = .passThrough ∨ ∃ w, inside w ∧ classify s.windows a = staged w) ∧
      (WindowLaw s → ∀ w, inside w → classify s.windows a = staged w)) ∧
    (∀ w, runStateOf s.windows w = .faulted ↔ s.windows.faultSet.getLsbD w.val = true) ∧
    (∀ e : UrqEntry, spillOrderedHold s e = true ↔
      classify s.windows e.request.addr ≠ .passThrough ∧
      ∃ f ∈ s.uport.issueOrder, (∃ n, f.origin = .spill n) ∧
        ∃ a ∈ rangeWords e.request, ∃ p ∈ carryingWords f.request, p.1 = a) ∧
    (takingHead s.uport = none ∨ s.uport.isOpen = false ∨ s.uport.stall ≠ none → exec .taking s = .next s) ∧
    (∀ e, takingHead s.uport = some e → s.uport.isOpen = true → s.uport.stall = none →
      spillOrderedHold s e = true → exec .taking s = .next (s.setUport { s.uport with spillHeld := true })) ∧
    ∀ e, classify s.windows e.request.addr = .passThrough →
      let t := s.setUport
        (portAfterTaking s.uport e.serial
          (fun x => { x with phase := .forwarded, classification := some .passThrough, snapshot := none })
          [{ origin := (match e.request.payload with | .read => .read e.serial | .write _ => .write e.serial)
             request := e.request }])
      attemptTaking e s = t ∧ (CanTake s e → exec .taking s = .next t)

/-- An attempt at a staged WRITE, and TAKING of it: staged whole and answered OK, refused in a FAULTED window, or handled by
the full-store policy (R7, R8, R51, R52, R55). A stalled write that is offered again is such an attempt (R53): under STALL
and still not stageable it stays stalled with its timer running on from its first start (R53, R186); every other row ends
the stall. Where a write is not stageable some word remains for its spill write; the last clause is what the policy's
action does with a write of which none remains (R55). -/
def Obligations.TakingStagedWrite : Prop :=
  ∀ (s : State) (e : UrqEntry) (ws : List Lanes) (w : Window) (p : Policy) (v : View) (run : RunState),
    e.request.payload = .write ws → classify s.windows e.request.addr = .staged w p v run →
    let gives (t : State) : Prop := attemptTaking e s = t ∧ (CanTake s e → exec .taking s = .next t)
    let ready (a : Answer) (x : UrqEntry) : UrqEntry :=
      { x with
        phase := .answeredReady, classification := some (.staged w p v run), snapshot := none, response := some a }
    let remaining := (carryingWords e.request).filter fun q => !hasOpen s.store q.1
    let coalesced := s.setStore (coalesceOnly e.request { frame := s.timer.frame, phase := s.timer.phase } s.store)
    (run = .faulted →
      gives (raiseCause .writeRefused (s.setUport (portAfterTaking s.uport e.serial (ready .error) [])))) ∧
    (run = .normal → need s.store e.request ≤ freeSlots s.store → gives
      ((s.setStore (stageWhole w e.request { frame := s.timer.frame, phase := s.timer.phase } s.store)).setUport
        (portAfterTaking s.uport e.serial (ready (.ok [])) []))) ∧
    (run = .normal → freeSlots s.store < need s.store e.request →
      (p = .stall → s.uport.stall = none → gives
        (s.setUport
          { s.uport with
            stall := some
              { due :=
                  if s.uport.stallLimit = 0 then none else some (s.now + s.uport.stallLimit * 16) }
            spillHeld := false })) ∧
      (p = .stall → ∀ timer, s.uport.stall = some timer → attemptTaking e s = s) ∧
      (p = .reject →
        gives (raiseCause .writeRefused (s.setUport (portAfterTaking s.uport e.serial (ready .error) [])))) ∧
      (p = .spill → gives
        (coalesced.setUport
          (portAfterTaking s.uport e.serial
            (fun x =>
              { x with phase := .forwarded, classification := some (.staged w p v run), snapshot := none })
            [{ origin := .spill e.serial, request := spillRequest e.request remaining }])))) ∧
    (remaining = [] → spillHead e (.staged w p v run) s =
      coalesced.setUport (portAfterTaking s.uport e.serial (ready (.ok [])) []))

/-- What staging a write whole does to the store: every byte that the write carries is the open byte of its address, every
other open byte stays; the entry count grows by the need; an entry held keeps its address, window and position, and each
word without one is allocated in window w, in ascending order, at the creation positions that follow; the byte count
grows by the bytes that were not pending; the window joins the window set where a word is allocated; the stamps and the
deferral count are set as R7 gives; the sealed generation and the open number stay; a write that carries no byte changes
nothing (R4 to R7). -/
def Obligations.StagingWritesTheBytes : Prop :=
  ∀ (w : Window) (r : Request) (stamp : Stamp) (st : Store), r.wf = true →
    (∀ e ∈ openEntries st, e.lanes.length = 8) →
    let remaining := (carryingWords r).filter fun p => !hasOpen st p.1
    (∀ a, openByte (stageWhole w r stamp st) a = (writeByte r a).or (openByte st a)) ∧
    openCount (stageWhole w r stamp st) = openCount st + need st r ∧
    (openEntries (stageWhole w r stamp st) =
      ((openEntries st).map fun e =>
        { e with
          lanes := (((carryingWords r).find? fun p => p.1 == e.addr).map fun p => overlay p.2 e.lanes).getD e.lanes }) ++
      remaining.zipIdx.map fun p =>
        { addr := p.1.1, lanes := p.1.2, window := w, position := openCount st + p.2 + 1 }) ∧
    remaining.Pairwise (fun p q => p.1.toNat < q.1.toNat) ∧
    (((openEntries st).map fun e => e.addr).Nodup → (∀ e ∈ openEntries st, e.addr = wordAddr e.addr) →
      ((openEntries (stageWhole w r stamp st)).map fun e => laneCount e.lanes).sum =
        ((openEntries st).map fun e => laneCount e.lanes).sum +
          (rangeBytes r).countP fun a => (writeByte r a).isSome && (openByte st a).isNone) ∧
    (∀ v : Window, (openWindowSet (stageWhole w r stamp st)).getLsbD v.val =
      ((openWindowSet st).getLsbD v.val || (v == w && !remaining.isEmpty))) ∧
    (stageWhole w r stamp st).sealedGen = st.sealedGen ∧
    (stageWhole w r stamp st).openNumber = st.openNumber ∧
    (carryingWords r = [] → stageWhole w r stamp st = st) ∧
    (carryingWords r ≠ [] → ∃ b, (stageWhole w r stamp st).openBody = some b ∧ b.lastWrite = stamp ∧
      (st.openBody = none → b.firstWrite = stamp ∧ b.deferral = 0) ∧
      ∀ o, st.openBody = some o → b.firstWrite = o.firstWrite ∧ b.deferral = o.deferral)

/-- What a coalesce-only write does: every byte it carries for a word with an open entry is the open byte of its address,
every other open byte stays; nothing is allocated, each entry keeping its address, window and position and the window set
staying; the byte count grows by the bytes that were not pending; the last-write stamp is set if a word coalesced (R4, R5,
R8). -/
def Obligations.CoalesceOnlyWritesHeldWords : Prop :=
  ∀ (r : Request) (stamp : Stamp) (st : Store), r.wf = true →
    (∀ e ∈ openEntries st, e.lanes.length = 8) →
    (∀ a, openByte (coalesceOnly r stamp st) a =
      if hasOpen st (wordAddr a) then (writeByte r a).or (openByte st a) else openByte st a) ∧
    openCount (coalesceOnly r stamp st) = openCount st ∧
    (openEntries (coalesceOnly r stamp st) =
      (openEntries st).map fun e =>
        { e with
          lanes :=
            (((carryingWords r).find? fun p => p.1 == e.addr).map fun p => overlay p.2 e.lanes).getD e.lanes }) ∧
    (((openEntries st).map fun e => e.addr).Nodup → (∀ e ∈ openEntries st, e.addr = wordAddr e.addr) →
      ((openEntries (coalesceOnly r stamp st)).map fun e => laneCount e.lanes).sum =
        ((openEntries st).map fun e => laneCount e.lanes).sum +
          (rangeBytes r).countP fun a =>
            hasOpen st (wordAddr a) && (writeByte r a).isSome && (openByte st a).isNone) ∧
    openWindowSet (coalesceOnly r stamp st) = openWindowSet st ∧
    (coalesceOnly r stamp st).sealedGen = st.sealedGen ∧
    (coalesceOnly r stamp st).openNumber = st.openNumber ∧
    ((carryingWords r).all (fun p => !hasOpen st p.1) = true → coalesceOnly r stamp st = st) ∧
    ((carryingWords r).any (fun p => hasOpen st p.1) = true →
      ∃ b o, (coalesceOnly r stamp st).openBody = some b ∧ st.openBody = some o ∧ b.lastWrite = stamp ∧
        b.firstWrite = o.firstWrite ∧ b.deferral = o.deferral)

/-- A spill write is a well-formed WRITE that carries exactly the remaining words, from the lowest to the highest; from a
sub-word WRITE it is that same request (R55). -/
def Obligations.SpillWriteCarriesTheRemainingWords : Prop :=
  ∀ (r : Request) (st : Store), r.wf = true →
    let remaining := (carryingWords r).filter fun p => !hasOpen st p.1
    remaining ≠ [] →
    (spillRequest r remaining).wf = true ∧
    carryingWords (spillRequest r remaining) = remaining ∧
    (∀ n, r.len = .sub n → spillRequest r remaining = r) ∧
    (∀ n, r.len = .words n →
      (rangeWords (spillRequest r remaining)).head? = remaining.head?.map (fun p => p.1) ∧
      (rangeWords (spillRequest r remaining)).getLast? = remaining.getLast?.map (fun p => p.1))

/-- An attempt at a staged READ, and TAKING of it: its snapshot, and the answer from it or the forwarding (R21, R58). -/
def Obligations.TakingStagedRead : Prop :=
  ∀ (s : State) (e : UrqEntry) (w : Window) (p : Policy) (v : View) (run : RunState),
    e.request.payload = .read → classify s.windows e.request.addr = .staged w p v run →
    let gives (t : State) : Prop := attemptTaking e s = t ∧ (CanTake s e → exec .taking s = .next t)
    let snap := (rangeBytes e.request).map fun a =>
      if v = .latest then (openByte s.store a).or (sealedByte s.store a) else sealedByte s.store a
    (∀ data : List Byte, snap = data.map some → gives
      (s.setUport (portAfterTaking s.uport e.serial
        (fun x =>
          { x with
            phase := .answeredReady, classification := some (.staged w p v run), snapshot := some snap
            response := some (.ok data) }) []))) ∧
    (none ∈ snap → gives
      (s.setUport (portAfterTaking s.uport e.serial
        (fun x =>
          { x with phase := .forwarded, classification := some (.staged w p v run), snapshot := some snap })
        [{ origin := .read e.serial, request := e.request }])))

/-- RESPONSE_DEPARTURE (R47, R61). -/
def Obligations.ResponseDeparture : Prop :=
  ∀ s : State,
    (∀ e rest a, s.uport.urq = e :: rest → e.phase = .answeredReady → e.response = some a →
      s.uport.isOpen = true →
      exec .responseDeparture s = .next
        (s.setUport { s.uport with urq := rest, sent := s.uport.sent ++ [a] })) ∧
    (s.uport.urq = [] ∨ s.uport.isOpen = false ∨ (∃ e rest, s.uport.urq = e :: rest ∧ e.phase ≠ .answeredReady) →
      exec .responseDeparture s = .next s)

/-- STALL_TIMER_EXPIRY (R51, R54): with its due instant reached, and otherwise nothing. -/
def Obligations.StallTimerExpiry : Prop :=
  ∀ s : State,
    (∀ d e, s.uport.stall = some { due := some d } → d ≤ s.now → takingHead s.uport = some e →
      exec .stallTimerExpiry s = .next
        (raiseCause .stallTimeout
          (s.setUport
            { s.uport with
              urq := updateUrq e.serial
                (fun x => { x with phase := .answeredReady, response := some .error }) s.uport.urq
              stall := none }))) ∧
    (s.uport.stall = none ∨ s.uport.stall = some { due := none } ∨
        (∃ d, s.uport.stall = some { due := some d } ∧ s.now < d) →
      exec .stallTimerExpiry s = .next s)

/-! ### Downstream commands -/

/-- GRANT: which requester is granted (R78 to R80), and the issue of its request with the lowest free tag (R65, R72, R73,
R79). At the issue of a spill write the head that an attempt found held by it is taken, where no other spill write holds
it (R56); whether one does is judged by the table of the moment, the model's choice (assumption log 26). With no tag free or
no requester waiting nothing is granted. -/
def Obligations.GrantIssuesTheChosenRequest : Prop :=
  ∀ s : State,
    let issued (t : Tag) (o : Origin) (r : Request) (share : Nat) : DPort :=
      { s.dport with
        inFlight := s.dport.inFlight ++
          [{ tag := t, origin := o, issueTime := s.now, expiry := s.now + s.dport.dsTimeout * 16, orphan := false }]
        shareCounter := share
        sent := s.dport.sent ++ [{ tag := t, request := r }] }
    let forwarded (t : Tag) (f : Forward) : State :=
      (s.setDport (issued t f.origin f.request 0)).setUport
        { s.uport with issueOrder := s.uport.issueOrder.drop 1 }
    let pass (t : Tag) (f : Forward) : State :=
      if isSpill f = true then takeHeldHead (forwarded t f) else forwarded t f
    let drained (t : Tag) (e : SealedEntry) : State :=
      ((s.setDport (issued t (.drain e.entry.position)
          { addr := e.entry.addr, len := .words 1, payload := .write [e.entry.lanes] }
          (min (s.dport.shareCounter + 1) 15))).setStore
        { s.store with
          sealedGen := s.store.sealedGen.map fun g =>
            { g with
              entries := g.entries.map fun x =>
                if x.entry.position = e.entry.position then { x with drain := .inFlight } else x } }).setDrain
        { s.drain with
          cursor :=
            if s.drain.cursor = some e.entry.position then some (e.entry.position + 1) else s.drain.cursor }
    (∀ t f, lowestFreeTag s.dport = some t → passOffer s = some f → drainOffer s = none →
      exec .grant s = .next (pass t f)) ∧
    (∀ t e, lowestFreeTag s.dport = some t → passOffer s = none → drainOffer s = some e →
      exec .grant s = .next (drained t e)) ∧
    (∀ t f e, lowestFreeTag s.dport = some t → passOffer s = some f → drainOffer s = some e →
      exec .grant s = .next
        (if s.drain.urgent = true ∨ s.dport.shareCounter < s.dport.drainShare then drained t e else pass t f)) ∧
    (lowestFreeTag s.dport = none ∨ (passOffer s = none ∧ drainOffer s = none) → exec .grant s = .next s) ∧
    (∀ e, takingHead s.uport = some e → s.uport.spillHeld = true → spillOrderedHold s e = false →
      takeHeldHead s = attemptTaking e s) ∧
    (takingHead s.uport = none ∨ s.uport.spillHeld = false ∨
        (∃ e, takingHead s.uport = some e ∧ spillOrderedHold s e = true) →
      takeHeldHead s = s)

/-- What the requesters offer and which tag is lowest: the oldest unissued request unless it is a spill write with a sealed
entry for one of its words (R49, R82); the entry due for retry with the lowest creation position, else the entry at the
cursor, and nothing only where every entry is in flight (R64); the lowest tag that no member holds and that is not stale
(R72). -/
def Obligations.OffersFollowTheirOrders : Prop :=
  ∀ s : State,
    (s.uport.issueOrder = [] → passOffer s = none) ∧
    (∀ f rest, s.uport.issueOrder = f :: rest →
      ((isSpill f = true ∧ ∃ p ∈ carryingWords f.request, ∃ x ∈ sealedEntries s.store, x.entry.addr = p.1) →
        passOffer s = none) ∧
      (¬(isSpill f = true ∧ ∃ p ∈ carryingWords f.request, ∃ x ∈ sealedEntries s.store, x.entry.addr = p.1) →
        passOffer s = some f)) ∧
    (∀ t : Tag, lowestFreeTag s.dport = some t ↔
      t ∉ tagsInUse s.dport ∧ ∀ u : Tag, u < t → u ∈ tagsInUse s.dport) ∧
    (s.store.sealedGen = none → drainOffer s = none) ∧
    (DrainLaw s → ∀ g c, s.store.sealedGen = some g → s.drain.cursor = some c →
      (∀ e, drainOffer s = some e → e ∈ g.entries ∧ e.drain = .pending ∧
        ((∃ x ∈ g.entries, x.drain = .pending ∧ 0 < x.retries) → 0 < e.retries ∧
          ∀ x ∈ g.entries, x.drain = .pending → 0 < x.retries → e.entry.position ≤ x.entry.position) ∧
        ((∀ x ∈ g.entries, x.drain = .pending → x.retries = 0) → e.entry.position = c ∧ e.retries = 0)) ∧
      (drainOffer s = none → ∀ e ∈ g.entries, e.drain = .inFlight))

/-- DOWNSTREAM_RESPONSE to a member of an upstream origin, which answers its URQ entry (R50, R57, R58); to an orphan; to
a stale tag; and to a tag that nobody holds (R74, R76, R77). OK data that is not as long as the READ is taken as its
response all the same (R76, R85): the bytes that the READ then receives from memory are free (assumption log 7), and the
count of draws moves on (assumption log 24). -/
def Obligations.ResponseAnswersOrIsDiscarded : Prop :=
  ∀ (s : State) (tag : Tag) (a : Answer),
    let removed := s.setDport { s.dport with inFlight := s.dport.inFlight.filter fun m => m.tag != tag }
    let answeredWith (b : Answer) (n : Nat) : State :=
      removed.setUport
        { s.uport with
          urq := updateUrq n
            (fun x => { x with phase := .answeredReady, response := some (upstreamAnswer x b) }) s.uport.urq }
    let answered (n : Nat) : State := answeredWith a n
    (∀ m n, memberWithTag s.dport tag = some m → m.orphan = false → m.origin = .read n →
      (∀ e data, s.uport.urq.find? (fun x => x.serial == n) = some e → a = .ok data →
        data.length = e.request.len.bytes) →
      exec (.downstreamResponse tag a) s = .next (answered n)) ∧
    (∀ m n e data, memberWithTag s.dport tag = some m → m.orphan = false → m.origin = .read n →
      s.uport.urq.find? (fun x => x.serial == n) = some e → a = .ok data → data.length ≠ e.request.len.bytes →
      ∃ free : List Byte, free.length = e.request.len.bytes ∧
        exec (.downstreamResponse tag a) s = .next ((answeredWith (.ok free) n).setDrawn (s.drawn + 1))) ∧
    (∀ m n, memberWithTag s.dport tag = some m → m.orphan = false → m.origin = .write n ∨ m.origin = .spill n →
      exec (.downstreamResponse tag a) s = .next (answered n)) ∧
    (∀ m, memberWithTag s.dport tag = some m → m.orphan = true →
      exec (.downstreamResponse tag a) s = .next removed) ∧
    (memberWithTag s.dport tag = none → exec (.downstreamResponse tag a) s = .next
      (s.setDport { s.dport with stale := s.dport.stale.filter fun x => x.tag != tag })) ∧
    (tag ∉ tagsInUse s.dport → exec (.downstreamResponse tag a) s = .next s) ∧
    (∀ x : UrqEntry, upstreamAnswer x .error = .error) ∧
    (∀ (x : UrqEntry) ws data, x.request.payload = .write ws → upstreamAnswer x (.ok data) = .ok []) ∧
    (∀ (x : UrqEntry) data, x.request.payload = .read → x.snapshot = none → upstreamAnswer x (.ok data) = .ok data) ∧
    (∀ (x : UrqEntry) data snap, x.request.payload = .read → x.snapshot = some snap →
      upstreamAnswer x (.ok data) = .ok (List.zipWith (fun m d => m.getD d) snap data))

/-- DOWNSTREAM_RESPONSE with status OK to a drain write: the entry leaves its slot and the drain-done count increases; the
freeing is reported, so that a stalled write is offered again; and the generation retires if no entry is left (R13, R14,
R53, R66; the order is assumption log 5). -/
def Obligations.DrainWriteAnsweredOk : Prop :=
  ∀ (s : State) (tag : Tag) (data : List Byte) (m : InFlight) (g : SealedGen) (e : SealedEntry),
    memberWithTag s.dport tag = some m → m.orphan = false → m.origin = .drain e.entry.position →
    s.store.sealedGen = some g → inFlightEntry g e.entry.position = some e →
    let g' : SealedGen :=
      { g with
        entries := g.entries.filter fun x => x.entry.position != e.entry.position
        doneCount := g.doneCount + 1 }
    let freed := (s.setDport { s.dport with inFlight := s.dport.inFlight.filter fun x => x.tag != tag }).setStore
      { s.store with sealedGen := some g' }
    (g'.entries ≠ [] → exec (.downstreamResponse tag (.ok data)) s = .next (reportFreedSlots freed)) ∧
    (g'.entries = [] → exec (.downstreamResponse tag (.ok data)) s = .next (retire g' (reportFreedSlots freed))) ∧
    (s.uport.stall = none → reportFreedSlots freed = freed) ∧
    (∀ due x, s.uport.stall = some due → takingHead s.uport = some x →
      reportFreedSlots freed = attemptTaking x freed)

/-- DOWNSTREAM_RESPONSE with status ERROR to a drain write, and what a failed drain write does: a retry while retries used
is below RETRY_LIMIT, else a drop, which faults the entry's window and raises DRAIN_DROP (R12, R13, R39, R67). -/
def Obligations.DrainWriteFailed : Prop :=
  (∀ (s : State) (tag : Tag) (m : InFlight) (p : Nat),
    memberWithTag s.dport tag = some m → m.orphan = false → m.origin = .drain p →
    exec (.downstreamResponse tag .error) s = .next
      (drainFailed p
        (s.setDport { s.dport with inFlight := s.dport.inFlight.filter fun x => x.tag != tag }))) ∧
  ∀ (s : State) (g : SealedGen) (e : SealedEntry),
    s.store.sealedGen = some g → inFlightEntry g e.entry.position = some e →
    let g' : SealedGen :=
      { g with
        entries := g.entries.filter fun x => x.entry.position != e.entry.position
        droppedCount := g.droppedCount + 1 }
    let dropped := raiseCause .drainDrop
      ((s.setStore { s.store with sealedGen := some g' }).setWindows
        { s.windows with faultSet := s.windows.faultSet ||| BitVec.ofNat 16 (2 ^ e.entry.window.val) })
    (e.retries < s.dport.retryLimit → drainFailed e.entry.position s =
      s.setStore
        { s.store with
          sealedGen := some
            { g with
              entries := g.entries.map fun x =>
                if x.entry.position = e.entry.position then
                  { x with drain := .pending, retries := x.retries + 1 }
                else x } }) ∧
    (s.dport.retryLimit ≤ e.retries → g'.entries ≠ [] →
      drainFailed e.entry.position s = reportFreedSlots dropped) ∧
    (s.dport.retryLimit ≤ e.retries → g'.entries = [] →
      drainFailed e.entry.position s = retire g' (reportFreedSlots dropped))

/-- DOWNSTREAM_TIMEOUT_EXPIRY: the member leaves the list, its tag becomes stale, DOWNSTREAM_TIMEOUT is raised, and the
origin of a member that is no orphan receives ERROR; before the expiry nothing happens (R75, R76, R77). -/
def Obligations.DownstreamTimeoutExpiry : Prop :=
  ∀ (s : State) (tag : Tag),
    let timedOut := raiseCause .downstreamTimeout
      (s.setDport
        { s.dport with
          inFlight := s.dport.inFlight.filter fun m => m.tag != tag
          stale := s.dport.stale ++ [{ tag := tag, release := s.now + s.dport.dsTimeout * 16 }] })
    (∀ m, memberWithTag s.dport tag = some m → m.expiry ≤ s.now → m.orphan = true →
      exec (.downstreamTimeoutExpiry tag) s = .next timedOut) ∧
    (∀ m n, memberWithTag s.dport tag = some m → m.expiry ≤ s.now → m.orphan = false →
      m.origin = .read n ∨ m.origin = .write n ∨ m.origin = .spill n →
      exec (.downstreamTimeoutExpiry tag) s = .next
        (timedOut.setUport
          { s.uport with
            urq := updateUrq n
              (fun x => { x with phase := .answeredReady, response := some .error }) s.uport.urq })) ∧
    (∀ m p, memberWithTag s.dport tag = some m → m.expiry ≤ s.now → m.orphan = false → m.origin = .drain p →
      exec (.downstreamTimeoutExpiry tag) s = .next (drainFailed p timedOut)) ∧
    (memberWithTag s.dport tag = none → exec (.downstreamTimeoutExpiry tag) s = .next s) ∧
    (∀ m, memberWithTag s.dport tag = some m → s.now < m.expiry →
      exec (.downstreamTimeoutExpiry tag) s = .next s)

/-- STALE_TAG_RELEASE frees the tag once its release instant has come (R76), and DEADLINE_DUE sets the late flag, raises
COMMIT_LATE and turns urgent mode on, once for a generation (R69). Before those instants, and for a generation already
late, nothing happens. -/
def Obligations.StaleReleaseAndDeadline : Prop :=
  ∀ s : State,
    (∀ tag, (∃ x ∈ s.dport.stale, x.tag = tag ∧ x.release ≤ s.now) → exec (.staleTagRelease tag) s = .next
      (s.setDport { s.dport with stale := s.dport.stale.filter fun x => x.tag != tag })) ∧
    (∀ tag, (∀ x ∈ s.dport.stale, x.tag = tag → s.now < x.release) → exec (.staleTagRelease tag) s = .next s) ∧
    (∀ g, s.store.sealedGen = some g → g.late = false → g.deadline ≤ s.now → exec .deadlineDue s = .next
      ((raiseCause .commitLate (s.setStore { s.store with sealedGen := some { g with late := true } })).setDrain
        { s.drain with urgent := true })) ∧
    (s.store.sealedGen = none → exec .deadlineDue s = .next s) ∧
    (∀ g, s.store.sealedGen = some g → g.late = true ∨ s.now < g.deadline → exec .deadlineDue s = .next s)

/-- A retirement: the record, COMMIT_DONE, no sealed generation, no cursor, urgent mode off, then the permission-return
moment and the reopening of the U-port (R70, R143 to R146; the order of the last two is assumption log 5). -/
def Obligations.RetirementEndsTheGeneration : Prop :=
  (∀ (s : State) (g : SealedGen), retire g s = reopenPort (permissionReturn
    (((raiseCause .commitDone
      (s.setRing (ringWith s.ring
        { number := g.number
          outcome := if g.droppedCount = 0 then .complete else .partlyDropped
          late := g.late
          entryCount := g.entryCount
          byteCount := g.byteCount
          droppedCount := g.droppedCount
          windowSet := g.windowSet
          firstWrite := g.firstWrite
          lastWrite := g.lastWrite
          deferral := g.deferral
          sealFields := some
            { cause := g.cause, stamp := g.stamp, tracker := g.tracker
              drainTicks := min (s.now - g.sealTime) 4294967295 } }))).setStore
      { s.store with sealedGen := none }).setDrain { cursor := none, urgent := false }))) ∧
  ∀ s : State,
    (s.uport.isOpen = false → s.srstn = .high → s.store.sealedGen = none →
      reopenPort s = raiseCause .warmReset (s.setUport { s.uport with isOpen := true })) ∧
    (s.uport.isOpen = true ∨ s.srstn = .low ∨ s.store.sealedGen ≠ none → reopenPort s = s)

/-! ### Seals, applies and permission -/

/-- A raise adds one cause and no other, in whatever order raises come, and ATTNn follows (R156, R157). -/
def Obligations.RaiseAddsOneCause : Prop :=
  ∀ (c : Cause) (s : State),
    (∃ set, raiseCause c s =
        s.setAttention
          { causes := set, enabled := s.attention.enabled, asserted := set &&& s.attention.enabled != 0#16 } ∧
      ∀ d, inCauseSet set d = (inCauseSet s.attention.causes d || d == c)) ∧
    (inCauseSet s.attention.causes c = true →
      (raiseCause c s).attention.causes = s.attention.causes) ∧
    ∀ d, raiseCause c (raiseCause d s) = raiseCause d (raiseCause c s)

/-- A seal of a non-empty open generation: what the sealed generation holds, the next open generation, the drain's
beginning, the apply where it rides, and the flags (R10, R11, R63, R124). -/
def Obligations.SealOfTheOpenGeneration : Prop :=
  ∀ (cause : SealCause) (stamp : Stamp) (s : State) (b : OpenBody), s.store.openBody = some b →
    let sealedState := (s.setStore
      { openNumber := s.store.openNumber + 1#32
        openBody := none
        sealedGen := some
          { number := s.store.openNumber
            entries := b.entries.map fun e => { entry := e, drain := .pending, retries := 0 }
            entryCount := b.entries.length
            byteCount := (b.entries.map fun e => laneCount e.lanes).sum
            windowSet := b.windowSet
            firstWrite := b.firstWrite
            lastWrite := b.lastWrite
            deferral := b.deferral
            stamp := stamp
            cause := cause
            sealTime := s.now
            deadline := s.now + s.timer.active.deadline
            tracker := s.tracker.state
            late := false
            doneCount := 0
            droppedCount := 0 } }).setDrain { cursor := some 1, urgent := false }
    (s.windows.applyState = .idle → takeSeal cause stamp s =
      sealedState.setSealing { s.sealing with commitNow := false, owed := false }) ∧
    (s.windows.applyState = .armed → cause = .commitNow → takeSeal cause stamp s =
      sealedState.setSealing { s.sealing with commitNow := false }) ∧
    (s.windows.applyState = .armed → cause ≠ .commitNow → takeSeal cause stamp s =
      (performApply sealedState).setSealing { s.sealing with commitNow := false, owed := false })

/-- The apply: which window fails, by limit or by overlap, the lowest such index being reported; a valid table is copied
whole, an invalid one leaves the active table (R34, R35, R36). -/
def Obligations.ApplyValidatesTheShadowTable : Prop :=
  (∀ (table : List Descriptor) (w : Window),
    let at' (v : Window) : Descriptor := table.getD v.val Descriptor.reset
    let limit (v : Window) : Prop :=
      (at' v).enable = true ∧ 4294967296 < (at' v).base.toNat + (at' v).pages * 4096
    let shares (v u : Window) : Prop :=
      v ≠ u ∧ (at' v).enable = true ∧ (at' u).enable = true ∧
        (at' v).base.toNat < (at' u).base.toNat + (at' u).pages * 4096 ∧
        (at' u).base.toNat < (at' v).base.toNat + (at' v).pages * 4096
    (failingWindow table = some w ↔
      (limit w ∨ ∃ u, shares w u) ∧ ∀ v : Window, v < w → ¬limit v ∧ ∀ u, ¬shares v u) ∧
    (breaksLimit (descriptorOf table w) = true ↔ limit w)) ∧
  ∀ s : State,
    (failingWindow s.windows.shadow = none → performApply s =
      raiseCause .tableApplied
        (s.setWindows
          { s.windows with active := s.windows.shadow, applyState := .idle, lastOutcome := .applied })) ∧
    (∀ w, failingWindow s.windows.shadow = some w → performApply s =
      raiseCause .tableRefused
        (s.setWindows
          { s.windows with
            applyState := .idle
            lastOutcome :=
              if breaksLimit (descriptorOf s.windows.shadow w) then .refusedLimit w else .refusedOverlap w }))

/-- The permissions, and what a permission-return moment takes: the owed seal under LATE_SEAL IMMEDIATE and frame
permission, then the commit-now flag under command permission (R118, R123, R127, R129, R131). -/
def Obligations.PermissionReturnTakesWhatWaits : Prop :=
  ∀ s : State,
    (commandPermission s = true ↔ s.store.sealedGen = none ∧ s.sealing.hold = .notHeld ∧ s.srstn = .high) ∧
    (framePermission s = true ↔ commandPermission s = true ∧ gateOpen s = true) ∧
    (gateOpen s = true ↔ s.tracker.gate = .any ∨ s.tracker.state = .locked ∨
      (s.tracker.gate = .lockedOrHoldover ∧ s.tracker.state = .holdover)) ∧
    permissionReturn s = returnCommitNow (returnOwed s) ∧
    (s.sealing.lateSeal = .nextPoint ∨ s.sealing.owed = false ∨ framePermission s = false → returnOwed s = s) ∧
    (s.sealing.lateSeal = .immediate → s.sealing.owed = true → framePermission s = true →
      (openEntries s.store ≠ [] →
        returnOwed s = takeSeal .owed { frame := s.timer.frame, phase := s.timer.phase } s) ∧
      (openEntries s.store = [] → s.windows.applyState = .armed →
        returnOwed s = (performApply s).setSealing { s.sealing with owed := false }) ∧
      (openEntries s.store = [] → s.windows.applyState = .idle →
        returnOwed s = s.setSealing { s.sealing with owed := false })) ∧
    (s.sealing.commitNow = false ∨ commandPermission s = false → returnCommitNow s = s) ∧
    (s.sealing.commitNow = true → commandPermission s = true →
      (openEntries s.store ≠ [] →
        returnCommitNow s = takeSeal .commitNow { frame := s.timer.frame, phase := s.timer.phase } s) ∧
      (openEntries s.store = [] →
        returnCommitNow s = s.setSealing { s.sealing with commitNow := false }))

/-! ### Frame timing commands -/

/-- SEAL_POINT: where the phase stands at SEAL_PHASE with the flag clear the point is offered and the flag set; a taken
point seals, applies, or only clears the owed-seal flag; a refused one leaves the owed-seal flag, the deferral count and
OVERRUN (R91, R125). The same of an offer of any cause and stamp, as those within a boundary are (R87, R92). -/
def Obligations.SealPointIsTakenOrRefused : Prop :=
  ∀ s : State,
    let offeredAt (t : State) : State := t.setTimer { s.timer with offered := true }
    let work := !(openEntries s.store).isEmpty || s.windows.applyState == .armed
    let refused : State :=
      (s.setSealing { s.sealing with owed := s.sealing.owed || work }).setStore
        (if (openEntries s.store).isEmpty then s.store
         else
          { s.store with
            openBody := s.store.openBody.map fun b => { b with deferral := min (b.deferral + 1) 4294967295 } })
    (∀ (cause : SealCause) (stamp : Stamp),
      (framePermission s = true → openEntries s.store ≠ [] →
        offerSealPoint cause stamp s = takeSeal cause stamp s) ∧
      (framePermission s = true → openEntries s.store = [] → s.windows.applyState = .armed →
        offerSealPoint cause stamp s = (performApply s).setSealing { s.sealing with owed := false }) ∧
      (framePermission s = true → openEntries s.store = [] → s.windows.applyState = .idle →
        offerSealPoint cause stamp s = s.setSealing { s.sealing with owed := false }) ∧
      (framePermission s = false → s.store.sealedGen = none → offerSealPoint cause stamp s = refused) ∧
      (framePermission s = false → s.store.sealedGen ≠ none →
        offerSealPoint cause stamp s = raiseCause .overrun refused)) ∧
    (s.timer.offered = true ∨ s.timer.phase ≠ s.timer.active.sealPhase → exec .sealPoint s = .next s) ∧
    (s.timer.offered = false → s.timer.phase = s.timer.active.sealPhase →
      (framePermission s = true → openEntries s.store ≠ [] → exec .sealPoint s = .next
        (offeredAt (takeSeal .sealPoint { frame := s.timer.frame, phase := s.timer.phase } s))) ∧
      (framePermission s = true → openEntries s.store = [] → s.windows.applyState = .armed →
        exec .sealPoint s = .next (offeredAt ((performApply s).setSealing { s.sealing with owed := false }))) ∧
      (framePermission s = true → openEntries s.store = [] → s.windows.applyState = .idle →
        exec .sealPoint s = .next (offeredAt (s.setSealing { s.sealing with owed := false }))) ∧
      (framePermission s = false → s.store.sealedGen = none →
        exec .sealPoint s = .next (offeredAt refused)) ∧
      (framePermission s = false → s.store.sealedGen ≠ none →
        exec .sealPoint s = .next (offeredAt (raiseCause .overrun refused))))

/-- FRAME_BOUNDARY: when the timer makes a boundary itself (R88); the five steps of a boundary (R87): the seal point of a
frame that has not offered it (R91, R92), the new frame, the transfer check (R96, R97), the report that counts a hold
frame, with the hold's expiry (R133), and the seal point of a SEAL_PHASE of 0; and what follows the steps, at the end of
a holdover frame (R108, R115) and, in ACQUIRE, where the new PERIOD + TOL_WIDE is already passed (R111). Where nothing
waits on the boundary only the frame number, the phase and the flag change. -/
def Obligations.FrameBoundaryBeginsAFrame : Prop :=
  ∀ s : State,
    let due := (s.tracker.state = .free ∨ s.tracker.state = .acquire) ∧ s.timer.active.period ≤ s.timer.phase ∨
      s.tracker.state = .holdover ∧ s.tracker.plast ≤ s.timer.phase
    let valid := 256 ≤ s.timer.shadow.period ∧ s.timer.shadow.period ≤ 16777215 ∧
      s.timer.shadow.sealPhase < s.timer.shadow.period ∧ 1 ≤ s.timer.shadow.deadline ∧
      s.timer.shadow.deadline ≤ s.timer.shadow.period ∧
      (s.tracker.trackEn = true → 2 * s.tracker.tolWide < s.timer.shadow.period)
    let stamp : Stamp := { frame := s.timer.frame, phase := s.timer.phase }
    let b := takeBoundary s
    b = earlySealPoint (reportBoundary (transferCheck (newFrame (lateSealPoint s)))) ∧
    (s.timer.offered = true → lateSealPoint s = s) ∧
    (s.timer.offered = false → s.timer.phase = s.timer.active.sealPhase →
      lateSealPoint s = offerSealPoint .sealPoint stamp s) ∧
    (s.timer.offered = false → s.timer.phase ≠ s.timer.active.sealPhase →
      lateSealPoint s = offerSealPoint .shortFrame stamp s) ∧
    newFrame s = s.setTimer { s.timer with frame := s.timer.frame + 1#32, phase := 0, offered := false } ∧
    (s.timer.shadow = s.timer.active ∨ (¬valid ∧ s.timer.refusalMark = true) → transferCheck s = s) ∧
    (s.timer.shadow ≠ s.timer.active → valid →
      transferCheck s = s.setTimer { s.timer with active := s.timer.shadow, refusalMark := false }) ∧
    (s.timer.shadow ≠ s.timer.active → ¬valid → s.timer.refusalMark = false →
      transferCheck s = raiseCause .timingRefused (s.setTimer { s.timer with refusalMark := true })) ∧
    (s.sealing.hold = .notHeld → reportBoundary s = s) ∧
    (s.sealing.hold = .held → s.sealing.holdCount + 1 < s.sealing.holdLimit →
      reportBoundary s = s.setSealing { s.sealing with holdCount := s.sealing.holdCount + 1 }) ∧
    (s.sealing.hold = .held → s.sealing.holdLimit ≤ s.sealing.holdCount + 1 →
      reportBoundary s = permissionReturn (raiseCause .holdExpired
        (s.setSealing
          { s.sealing with hold := .notHeld, holdCount := s.sealing.holdCount + 1, expired := true }))) ∧
    (s.timer.active.sealPhase ≠ 0 → earlySealPoint s = s) ∧
    (s.timer.active.sealPhase = 0 →
      earlySealPoint s = (offerSealPoint .sealPoint stamp s).setTimer { s.timer with offered := true }) ∧
    (¬due → exec .frameBoundary s = .next s) ∧
    (due → s.tracker.state = .free → exec .frameBoundary s = .next b) ∧
    (due → s.tracker.state = .acquire →
      (∀ r, s.tracker.reference = some r → r + b.timer.active.period + s.tracker.tolWide < s.now →
        exec .frameBoundary s = .next (b.setTracker { s.tracker with reference := none, goodCount := 0 })) ∧
      (s.tracker.reference = none ∨
          (∃ r, s.tracker.reference = some r ∧ s.now ≤ r + b.timer.active.period + s.tracker.tolWide) →
        exec .frameBoundary s = .next b)) ∧
    (due → s.tracker.state = .holdover → s.tracker.holdoverCount + 1 ≠ s.tracker.holdoverLimit →
      exec .frameBoundary s = .next
        (b.setTracker { s.tracker with holdoverCount := s.tracker.holdoverCount + 1 })) ∧
    (due → s.tracker.state = .holdover → s.tracker.holdoverCount + 1 = s.tracker.holdoverLimit →
      exec .frameBoundary s = .next
        (trackerChanged b
          { s.tracker with
            state := .acquire, goodCount := 0, lockCount := 0, holdoverCount := 0, reference := none }
          [.holdoverExhausted])) ∧
    (due → ∃ t, exec .frameBoundary s = .next t ∧
      t.timer.frame = s.timer.frame + 1#32 ∧ t.timer.phase = 0 ∧ t.timer.shadow = s.timer.shadow ∧
      t.timer.offered = (t.timer.active.sealPhase == 0) ∧
      (s.timer.shadow = s.timer.active →
        t.timer.active = s.timer.active ∧ t.timer.refusalMark = s.timer.refusalMark) ∧
      (s.timer.shadow ≠ s.timer.active → valid →
        t.timer.active = s.timer.shadow ∧ t.timer.refusalMark = false) ∧
      (s.timer.shadow ≠ s.timer.active → ¬valid →
        t.timer.active = s.timer.active ∧ t.timer.refusalMark = true ∧
          (s.timer.refusalMark = false → inCauseSet t.attention.causes .timingRefused = true)) ∧
      t.now = s.now ∧ t.srstn = s.srstn ∧ t.sync = s.sync ∧ t.uport = s.uport ∧ t.dport = s.dport ∧
      t.management = s.management ∧ t.ring = s.ring ∧ b.tracker = s.tracker ∧
      (s.tracker.state = .free → t.tracker = s.tracker) ∧
      (s.tracker.state = .holdover → s.tracker.holdoverCount + 1 ≠ s.tracker.holdoverLimit →
        t.tracker = { s.tracker with holdoverCount := s.tracker.holdoverCount + 1 }) ∧
      (s.tracker.state = .holdover → s.tracker.holdoverCount + 1 = s.tracker.holdoverLimit →
        t.tracker =
            { s.tracker with
              state := .acquire, goodCount := 0, lockCount := 0, holdoverCount := 0, reference := none } ∧
          inCauseSet t.attention.causes .holdoverExhausted = true) ∧
      (s.timer.offered = true → s.timer.shadow = s.timer.active → s.timer.active.sealPhase ≠ 0 →
        s.sealing.hold = .notHeld →
        b = s.setTimer { s.timer with frame := s.timer.frame + 1#32, phase := 0, offered := false }))

/-- SYNC_EDGE in FREE and in ACQUIRE (R102, R107, R109, R110): ignored; taken as the reference; a good interval; the one
that completes acquisition; an EARLY or LATE-EDGE interval. At the edge that completes acquisition the boundary is carried
out on the state before the tracker changes, and the change follows it (R108). The mark of the recognised edge is the
model's own (assumption log 12). -/
def Obligations.SyncEdgeInFreeAndAcquire : Prop :=
  ∀ s : State,
    let c := s.setSync { s.sync with edgeDue := false }
    (s.tracker.state = .free → exec .syncEdge s = .next c) ∧
    (s.tracker.state = .acquire → s.tracker.reference = none →
      exec .syncEdge s = .next (c.setTracker { s.tracker with reference := some s.now })) ∧
    (∀ r, s.tracker.state = .acquire → s.tracker.reference = some r →
      let i := s.now - r
      let good := Within i s.timer.active.period s.tracker.tolNarrow ∨
        Within i s.timer.active.period s.tracker.tolWide
      (¬good → exec .syncEdge s = .next
        (c.setTracker
          { s.tracker with lastInterval := min i 4294967295, goodCount := 0, reference := some s.now })) ∧
      (good → s.tracker.goodCount + 1 ≠ s.tracker.nAcq → exec .syncEdge s = .next
        (c.setTracker
          { s.tracker with
            lastInterval := min i 4294967295
            plast := i
            goodCount := s.tracker.goodCount + 1
            reference := some s.now })) ∧
      (good → s.tracker.goodCount + 1 = s.tracker.nAcq → ∃ t, exec .syncEdge s = .next t ∧
        t = trackerChanged
          (takeBoundary (c.setTracker { s.tracker with lastInterval := min i 4294967295, plast := i })) t.tracker [] ∧
        t.tracker =
          { s.tracker with
            state := .track
            lastInterval := min i 4294967295
            plast := i
            goodCount := s.tracker.goodCount + 1
            lockCount := 0
            reference := some s.now } ∧
        t.timer.phase = 0 ∧ t.timer.frame = s.timer.frame + 1#32 ∧ t.now = s.now ∧ t.uport = s.uport ∧
        t.dport = s.dport ∧ t.management = s.management))

/-- SYNC_EDGE in TRACK and LOCKED (R107, R112, R113), by the class of the interval; a LATE-EDGE, which R107 excludes,
faults (assumption log 8). The interval is measured first; a NARROW or WIDE edge then has its boundary carried out, with
its seal points judged under the tracker state and the gate before the event; the tracker change follows, with its causes
and, where the gate opens by it, a permission-return moment (R108). -/
def Obligations.SyncEdgeInTrackAndLocked : Prop :=
  ∀ (s : State) (r : Nat), s.tracker.reference = some r →
    s.tracker.state = .track ∨ s.tracker.state = .locked →
    let i := s.now - r
    let narrow := Within i s.timer.active.period s.tracker.tolNarrow
    let wide := ¬narrow ∧ Within i s.timer.active.period s.tracker.tolWide
    let outside := ¬narrow ∧ ¬Within i s.timer.active.period s.tracker.tolWide
    let cleared := s.setSync { s.sync with edgeDue := false }
    let lost : List Cause := if s.tracker.state = .locked then [.lockLost] else []
    let good : Tracker :=
      { s.tracker with lastInterval := min i 4294967295, plast := i, reference := some s.now }
    let measured := cleared.setTracker { s.tracker with lastInterval := min i 4294967295, plast := i }
    let changes (b : State) (tracker : Tracker) (causes : List Cause) (t : State) : Prop :=
      exec .syncEdge s = .next t ∧ t = trackerChanged b tracker causes ∧ t.tracker = tracker ∧
      (∀ c ∈ causes, inCauseSet t.attention.causes c = true) ∧ t.now = s.now ∧ t.uport = s.uport ∧
      t.dport = s.dport ∧ t.management = s.management
    let bounds (tracker : Tracker) (causes : List Cause) (t : State) : Prop :=
      changes (takeBoundary measured) tracker causes t ∧ t.timer.phase = 0 ∧ t.timer.frame = s.timer.frame + 1#32
    (narrow → s.tracker.state = .track → s.tracker.lockCount + 1 ≠ s.tracker.nLock →
      ∃ t, bounds { good with lockCount := s.tracker.lockCount + 1 } [] t) ∧
    (narrow → s.tracker.state = .track → s.tracker.lockCount + 1 = s.tracker.nLock →
      ∃ t, bounds { good with state := .locked, lockCount := s.tracker.lockCount + 1 } [.lockGained] t) ∧
    (narrow → s.tracker.state = .locked → ∃ t, bounds good [] t) ∧
    (wide → ∃ t, bounds { good with state := .track, lockCount := 0 } lost t) ∧
    (outside → i < s.timer.active.period → ∃ t, t.timer = s.timer ∧
      changes (cleared.setTracker { s.tracker with lastInterval := min i 4294967295 })
        { s.tracker with
          state := .acquire, lastInterval := min i 4294967295, goodCount := 0, lockCount := 0,
          reference := some s.now }
        lost t) ∧
    (outside → s.timer.active.period ≤ i → exec .syncEdge s = .fault .lateEdgeInTrack)

/-- SYNC_EDGE in HOLDOVER (R90, R116): a boundary edge, a realignment, or ignored. The boundary or the realignment, with the
seal point that a realignment may offer, is carried out before the tracker changes (R108). -/
def Obligations.SyncEdgeInHoldover : Prop :=
  ∀ (s : State) (r : Nat), s.tracker.state = .holdover → s.tracker.reference = some r →
    let cleared := s.setSync { s.sync with edgeDue := false }
    let moved := cleared.setTimer { s.timer with phase := 0 }
    let realigned :=
      if s.timer.active.sealPhase = 0 ∧ s.timer.offered = false then
        (offerSealPoint .sealPoint { frame := s.timer.frame, phase := 0 } moved).setTimer
          { s.timer with phase := 0, offered := true }
      else moved
    let back : Tracker :=
      { s.tracker with
        state := .track, lockCount := 0, holdoverCount := 0, lastInterval := min (s.now - r) 4294967295,
        reference := some s.now }
    (s.tracker.plast ≤ s.timer.phase + s.tracker.tolWide → ∃ t, exec .syncEdge s = .next t ∧
      t = trackerChanged (takeBoundary cleared) back [] ∧
      t.tracker = back ∧ t.timer.phase = 0 ∧ t.timer.frame = s.timer.frame + 1#32 ∧ t.uport = s.uport ∧
      t.dport = s.dport ∧ t.management = s.management) ∧
    (s.timer.phase + s.tracker.tolWide < s.tracker.plast → s.timer.phase ≤ s.tracker.tolWide →
      ∃ t, exec .syncEdge s = .next t ∧ t = trackerChanged realigned back [] ∧
        t.tracker = back ∧ t.timer.phase = 0 ∧ t.uport = s.uport ∧ t.dport = s.dport ∧
        t.management = s.management ∧
        t.timer.frame = s.timer.frame ∧ t.timer.active = s.timer.active ∧
        t.timer.offered = (s.timer.offered || s.timer.active.sealPhase == 0)) ∧
    (s.timer.phase + s.tracker.tolWide < s.tracker.plast → s.tracker.tolWide < s.timer.phase →
      exec .syncEdge s = .next (s.setSync { s.sync with edgeDue := false }))

/-- MISSING_SYNC_POINT in ACQUIRE (R111) and in TRACK and LOCKED (R114), where the boundary comes before the tracker change
and a gate that opens by the change is a permission-return moment (R108); before the point, in FREE and in HOLDOVER,
nothing happens. -/
def Obligations.MissingSyncPoint : Prop :=
  ∀ s : State,
    (s.tracker.state = .free ∨ s.tracker.state = .holdover ∨ s.tracker.reference = none ∨
        (∃ r, s.tracker.reference = some r ∧ s.now < r + s.timer.active.period + s.tracker.tolWide) →
      exec .missingSyncPoint s = .next s) ∧
    ∀ r, s.tracker.reference = some r → r + s.timer.active.period + s.tracker.tolWide ≤ s.now →
      (s.tracker.state = .acquire → exec .missingSyncPoint s = .next
        (s.setTracker { s.tracker with reference := none, goodCount := 0 })) ∧
      (s.tracker.state = .track ∨ s.tracker.state = .locked → ∃ t, exec .missingSyncPoint s = .next t ∧
        t = trackerChanged (takeBoundary s) t.tracker (if s.tracker.state = .locked then [.lockLost] else []) ∧
        t.timer.phase = 0 ∧ t.timer.frame = s.timer.frame + 1#32 ∧ t.uport = s.uport ∧ t.dport = s.dport ∧
        t.management = s.management ∧
        (s.tracker.state = .locked → inCauseSet t.attention.causes .lockLost = true) ∧
        t.tracker =
          (if 0 < s.tracker.holdoverLimit then { s.tracker with state := .holdover, holdoverCount := 0 }
           else
            { s.tracker with state := .acquire, goodCount := 0, lockCount := 0, reference := none }))

/-! ### Resets -/

/-- SRSTN_ASSERTION, with an empty open generation and with one that is discarded with its record, and SRSTN_DEASSERTION,
with what it comes to where nothing waits (R16, R60, R61, R77, R138, R139, R147). An edge that the level of the pin rules
out changes nothing (assumption log 3). -/
def Obligations.SrstnEdges : Prop :=
  ∀ s : State,
    let closed := (((s.setSrstn .low).setUport
      { s.uport with urq := [], issueOrder := [], stall := none, spillHeld := false, isOpen := false }).setDport
      { s.dport with
        inFlight := s.dport.inFlight.map fun m =>
          if isDrain m.origin = true then m else { m with orphan := true } }).setSealing
      { s.sealing with hold := .notHeld, holdCount := 0, expired := false, owed := false, commitNow := false }
    (s.srstn = .high → s.store.openBody = none → exec .srstnAssertion s = .next closed) ∧
    (∀ b, s.srstn = .high → s.store.openBody = some b → exec .srstnAssertion s = .next
      ((closed.setStore
        { openNumber := s.store.openNumber + 1#32, openBody := none, sealedGen := s.store.sealedGen }).setRing
        (ringWith s.ring
          { number := s.store.openNumber
            outcome := .resetDiscarded
            late := false
            entryCount := b.entries.length
            byteCount := (b.entries.map fun e => laneCount e.lanes).sum
            droppedCount := 0
            windowSet := b.windowSet
            firstWrite := b.firstWrite
            lastWrite := b.lastWrite
            deferral := b.deferral
            sealFields := none }))) ∧
    (s.srstn = .low → exec .srstnAssertion s = .next s) ∧
    (s.srstn = .low → exec .srstnDeassertion s = .next
      (reopenPort (permissionReturn (s.setSrstn .high)))) ∧
    (s.srstn = .low → s.store.sealedGen ≠ none → exec .srstnDeassertion s = .next (s.setSrstn .high)) ∧
    (s.srstn = .low → s.store.sealedGen = none → s.uport.isOpen = false → s.sealing.owed = false →
      s.sealing.commitNow = false → exec .srstnDeassertion s = .next
        (raiseCause .warmReset ((s.setSrstn .high).setUport { s.uport with isOpen := true }))) ∧
    (s.srstn = .high → exec .srstnDeassertion s = .next s)

/-! ### Management framing commands -/

/-- FRAME_START: the status byte bit by bit, the outgoing stream, the slot and the buffer emptied (R169, R178), and
FRAME_END by the receiver state, with the last-frame error (R167, R173, R174). An edge that the level of MCSn rules out
changes nothing (assumption log 3). -/
def Obligations.FrameStartAndEnd : Prop :=
  ∀ s : State,
    let ended : Management := { s.management with rx := .idle, outgoing := none, clocked := 0, mcsn := .high }
    (s.management.mcsn = .high → ∃ status : Byte,
      exec .frameStart s = .next
        (s.setManagement
          { s.management with
            rx := .awaitCode
            buffer := []
            slot := none
            outgoing := some
              (if s.management.slot = none then [status, 0x00#8, 0x00#8]
               else
                let r := s.management.slot.getD []
                [status, BitVec.ofNat 8 r.length] ++ r ++ [crc8 (BitVec.ofNat 8 r.length :: r)])
            clocked := 0
            mcsn := .low }) ∧
      (status.getLsbD 7 = true ↔ ∃ c, inCauseSet s.attention.causes c = true ∧
        inCauseSet s.attention.enabled c = true) ∧
      (status.getLsbD 6 = true ↔ s.sealing.hold = .held) ∧
      (status.getLsbD 5 = true ↔ s.tracker.state = .locked) ∧
      (status.getLsbD 4 = true ↔ s.store.sealedGen ≠ none) ∧
      (status.getLsbD 3 = true ↔ s.windows.applyState = .armed) ∧
      (status.getLsbD 2 = true ↔ s.management.lastFrameError = true) ∧
      (status.getLsbD 1 = true ↔ s.uport.isOpen = false) ∧
      status.getLsbD 0 = false) ∧
    (s.management.mcsn = .low → exec .frameStart s = .next s) ∧
    ∀ leftover : List Bool,
      (s.management.mcsn = .high → exec (.frameEnd leftover) s = .next s) ∧
      (s.management.mcsn = .low →
        (s.management.rx = .idle ∨ s.management.rx = .awaitCode →
          exec (.frameEnd leftover) s = .next (s.setManagement ended)) ∧
        (s.management.rx = .params ∨ s.management.rx = .awaitCrc → exec (.frameEnd leftover) s = .next
          (s.setManagement { ended with slot := some [0x08#8], lastFrameError := true })) ∧
        (s.management.rx = .done → exec (.frameEnd leftover) s = .next
          (s.setManagement { ended with lastFrameError := decide (s.management.slot = some [0x07#8]) })) ∧
        (s.management.rx = .discard → exec (.frameEnd leftover) s = .next
          (s.setManagement { ended with lastFrameError := false })))

/-- The bytes of a frame by the receiver state: an unknown code (NAK_CODE, R170); a known code, a parameter byte, an
ignored byte (COMMAND_PARAMETER_BYTE, R170 to R172); a CRC byte that differs (COMMAND_CRC_MISMATCH, R172); and the
parameter counts of the command table (R171). Each byte clocks the outgoing stream on by one, 00h after its end (R176).
A byte that the receiver state rules out changes nothing (assumption log 3). -/
def Obligations.ReceiverBytes : Prop :=
  (∀ code : Byte, paramCount code =
    if code = 0x01#8 then some 3 else if code = 0x02#8 then some 6
    else if code = 0x04#8 ∨ code = 0x10#8 then some 4 else if code = 0x0E#8 then some 1
    else if code ∈ [0x00#8, 0x03#8, 0x08#8, 0x09#8, 0x0A#8, 0x0B#8, 0x0C#8, 0x0D#8] then some 0 else none) ∧
  ∀ (s : State) (b : Byte),
    let m : Management := { s.management with clocked := s.management.clocked + 1 }
    (∀ n, s.management.rx = .awaitCode → paramCount b = some n → exec (.commandParameterByte b) s = .next
      (s.setManagement { m with buffer := [b], rx := if n = 0 then .awaitCrc else .params })) ∧
    (∀ code params n, s.management.rx = .params → s.management.buffer = code :: params → paramCount code = some n →
      exec (.commandParameterByte b) s = .next
        (s.setManagement
          { m with
            buffer := s.management.buffer ++ [b], rx := if params.length + 1 < n then .params else .awaitCrc })) ∧
    (s.management.rx = .done ∨ s.management.rx = .discard →
      exec (.commandParameterByte b) s = .next (s.setManagement m)) ∧
    (s.management.rx = .idle ∨ s.management.rx = .awaitCrc ∨
        (s.management.rx = .awaitCode ∧ paramCount b = none) →
      exec (.commandParameterByte b) s = .next s) ∧
    (s.management.rx = .awaitCode → paramCount b = none → exec (.nakCode b) s = .next
      (s.setManagement { m with slot := some [0x01#8], rx := .discard })) ∧
    (s.management.rx ≠ .awaitCode ∨ paramCount b ≠ none → exec (.nakCode b) s = .next s) ∧
    (s.management.rx = .awaitCrc → b ≠ crc8 s.management.buffer → exec (.commandCrcMismatch b) s = .next
      (s.setManagement { m with slot := some [0x07#8], rx := .done })) ∧
    (s.management.rx ≠ .awaitCrc ∨ b = crc8 s.management.buffer → exec (.commandCrcMismatch b) s = .next s) ∧
    (s.management.outgoing = none → mdoByte s.management = none) ∧
    (∀ bytes, s.management.outgoing = some bytes →
      mdoByte s.management = some
        (if s.management.clocked < bytes.length then bytes.getD s.management.clocked 0x00#8 else 0x00#8))

/-! ### Management commands -/

/-- NOP (R181), READ_ITEM (R182, R183) and QUERY_WORD (R23, R192), which change nothing but the management port; the
encoding of every item (R189, R190); and every management command whose CRC byte the receiver does not await, which
changes nothing (assumption log 3). -/
def Obligations.ReadingCommands : Prop :=
  BigEndian ∧ ∀ s : State, NumberEncoding s ∧ FieldEncoding s ∧
    (∀ i bs, commandBytes i = some bs → ¬Awaits s i → exec i s = .next s) ∧
    (Awaits s .nop → exec .nop s = .next (replied s none)) ∧
    (∀ item count, Awaits s (.readItem item count) →
      (count.toNat = 0 ∨ 8 < count.toNat → exec (.readItem item count) s = .next (replied s (some [0x04#8]))) ∧
      (1 ≤ count.toNat → count.toNat ≤ 8 → (∃ k, k < count.toNat ∧ itemOfNumber (item.toNat + k) = none) →
        exec (.readItem item count) s = .next (replied s (some [0x02#8]))) ∧
      ∀ items : List Item, 1 ≤ count.toNat → count.toNat ≤ 8 →
        (List.range count.toNat).map (fun k => itemOfNumber (item.toNat + k)) = items.map some →
        exec (.readItem item count) s = .next
          (replied s (some (0x00#8 :: items.flatMap fun it => bytes32 (itemValue s it))))) ∧
    ∀ a, Awaits s (.queryWord a) → ∃ openMask sealedMask drain : Byte,
      exec (.queryWord a) s = .next
        (replied s (some
          ([0x00#8, openMask, sealedMask, drain] ++ bytes32 s.store.openNumber ++
            bytes32 ((s.store.sealedGen.map fun g => g.number).getD 0#32)))) ∧
      (∀ i : Fin 8,
        openMask.getLsbD i.val = (openByte s.store (wordAddr a + BitVec.ofNat 32 i.val)).isSome ∧
        sealedMask.getLsbD i.val = (sealedByte s.store (wordAddr a + BitVec.ofNat 32 i.val)).isSome) ∧
      (lookupSealed s.store (wordAddr a) = none → drain = 0x00#8) ∧
      ∀ e, lookupSealed s.store (wordAddr a) = some e →
        drain = if e.drain = .pending then 0x01#8 else 0x02#8

/-- WRITE_ITEM (R184) of an item that does not exist, of a read-only item, and of the items that have no row of their own:
HOLD_LIMIT (R133), LATE_SEAL (R128), STALL_LIMIT (R186), DS_TIMEOUT, RETRY_LIMIT and DRAIN_SHARE (R81), and TRACK_EN with
a value above 1 (R105). With the number of an item that has a row of its own it is that row. -/
def Obligations.WriteItem : Prop :=
  ∀ (s : State) (item : Half) (v : Word), Awaits s (.writeItem item v) →
    let ok (t : State) : Host.Outcome State Fault Refusal := .next (replied t (some [0x00#8]))
    let nak (code : Byte) : Host.Outcome State Fault Refusal := .next (replied s (some [code]))
    let stored (n : Nat) (lo hi : Nat) (t : State) : Prop := item.toNat = n →
      exec (.writeItem item v) s = if lo ≤ v.toNat ∧ v.toNat ≤ hi then ok t else nak 0x04#8
    (itemOfNumber item.toNat = none → exec (.writeItem item v) s = nak 0x02#8) ∧
    (∀ it, itemOfNumber item.toNat = some it →
      it ∈ [Item.deviceId, .faultSet, .applyOutcome, .trackerState, .goodAndLock, .lastInterval, .holdoverCount,
        .frameNumber, .phase, .sealState, .openGen, .openCount, .sealedGen, .sealedRemaining, .freeSlots, .causeSet,
        .recordsUnread, .recordsHeld] ∨
      (∃ w f, it = .activeWindow w f) ∨ (∃ w, it = .windowCounts w) ∨ (∃ q, it = .activeTiming q) →
      exec (.writeItem item v) s = nak 0x03#8) ∧
    stored 0x00E0 1 255 (s.setSealing { s.sealing with holdLimit := v.toNat }) ∧
    stored 0x00E1 0 1
      (s.setSealing { s.sealing with lateSeal := if v.toNat = 0 then .immediate else .nextPoint }) ∧
    stored 0x0100 0 65535 (s.setUport { s.uport with stallLimit := v.toNat }) ∧
    stored 0x0101 1 65535 (s.setDport { s.dport with dsTimeout := v.toNat }) ∧
    stored 0x0102 0 3 (s.setDport { s.dport with retryLimit := v.toNat }) ∧
    stored 0x0103 1 15 (s.setDport { s.dport with drainShare := v.toNat }) ∧
    (item.toNat = 0x00C0 → 1 < v.toNat → exec (.writeItem item v) s = nak 0x04#8) ∧
    exec (.writeItem item v) s = exec (writeRow item v) s

/-- SHADOW_WINDOW_WRITE (R29, R30, R190), SHADOW_TIMING_WRITE (R95) and TRACKER_PARAMETER_WRITE (R104): refused while the
lock of the item holds, refused out of range, else stored in the one field. -/
def Obligations.TableTimingAndParameterWrites : Prop :=
  ∀ (s : State) (v : Word),
    let ok (t : State) : Host.Outcome State Fault Refusal := .next (replied t (some [0x00#8]))
    let nak (code : Byte) : Host.Outcome State Fault Refusal := .next (replied s (some [code]))
    (∀ w f, Awaits s (.shadowWindowWrite w f v) →
      let d : Descriptor := s.windows.shadow.getD w.val Descriptor.reset
      let stored (d' : Descriptor) : State :=
        s.setWindows { s.windows with shadow := s.windows.shadow.set w.val d' }
      (s.windows.applyState = .armed → exec (.shadowWindowWrite w f v) s = nak 0x06#8) ∧
      (s.windows.applyState = .idle →
        (f = .base → exec (.shadowWindowWrite w f v) s =
          if v.toNat % 4096 = 0 then ok (stored { d with base := v }) else nak 0x04#8) ∧
        (f = .pages → exec (.shadowWindowWrite w f v) s =
          if 1 ≤ v.toNat ∧ v.toNat ≤ 65536 then ok (stored { d with pages := v.toNat }) else nak 0x04#8) ∧
        (f = .enable → exec (.shadowWindowWrite w f v) s =
          if v.toNat ≤ 1 then ok (stored { d with enable := decide (v.toNat = 1) }) else nak 0x04#8) ∧
        (∀ p view, f = .policyView → v.toNat = policyCode p + viewCode view →
          exec (.shadowWindowWrite w f v) s = ok (stored { d with policy := p, view := view })) ∧
        (f = .policyView → (∀ p view, v.toNat ≠ policyCode p + viewCode view) →
          exec (.shadowWindowWrite w f v) s = nak 0x04#8))) ∧
    (∀ q, Awaits s (.shadowTimingWrite q v) →
      let stored (t : Timing) : State := s.setTimer { s.timer with shadow := t, refusalMark := false }
      (q = .period → exec (.shadowTimingWrite q v) s =
        if 256 ≤ v.toNat ∧ v.toNat ≤ 16777215 then ok (stored { s.timer.shadow with period := v.toNat })
        else nak 0x04#8) ∧
      (q = .sealPhase → exec (.shadowTimingWrite q v) s =
        if v.toNat ≤ 16777214 then ok (stored { s.timer.shadow with sealPhase := v.toNat }) else nak 0x04#8) ∧
      (q = .deadline → exec (.shadowTimingWrite q v) s =
        if 1 ≤ v.toNat ∧ v.toNat ≤ 16777215 then ok (stored { s.timer.shadow with deadline := v.toNat })
        else nak 0x04#8)) ∧
    ∀ p, Awaits s (.trackerParameterWrite p v) →
      (s.tracker.trackEn = true → exec (.trackerParameterWrite p v) s = nak 0x05#8) ∧
      (s.tracker.trackEn = false →
        (p = .tolNarrow → exec (.trackerParameterWrite p v) s =
          if v.toNat ≤ 65535 ∧ v.toNat ≤ s.tracker.tolWide then
            ok (s.setTracker { s.tracker with tolNarrow := v.toNat }) else nak 0x04#8) ∧
        (p = .tolWide → exec (.trackerParameterWrite p v) s =
          if 1 ≤ v.toNat ∧ v.toNat ≤ 65535 ∧ s.tracker.tolNarrow ≤ v.toNat then
            ok (s.setTracker { s.tracker with tolWide := v.toNat }) else nak 0x04#8) ∧
        (p = .nAcq → exec (.trackerParameterWrite p v) s =
          if 1 ≤ v.toNat ∧ v.toNat ≤ 15 then ok (s.setTracker { s.tracker with nAcq := v.toNat })
          else nak 0x04#8) ∧
        (p = .nLock → exec (.trackerParameterWrite p v) s =
          if 1 ≤ v.toNat ∧ v.toNat ≤ 255 then ok (s.setTracker { s.tracker with nLock := v.toNat })
          else nak 0x04#8) ∧
        (p = .holdoverLimit → exec (.trackerParameterWrite p v) s =
          if v.toNat ≤ 255 then ok (s.setTracker { s.tracker with holdoverLimit := v.toNat }) else nak 0x04#8))

/-- TRACK_EN_ENABLE (R105), TRACK_EN_DISABLE (R106) and GATE_WRITE (R104, R118). A disabled tracker is in FREE (R103,
R106). That an enable at a phase of PERIOD, its boundary still due, takes no boundary is the model's choice (assumption
log 25). -/
def Obligations.TrackerEnableAndGate : Prop :=
  ∀ s : State,
    let ok (t : State) : Host.Outcome State Fault Refusal := .next (replied t (some [0x00#8]))
    let nak (code : Byte) : Host.Outcome State Fault Refusal := .next (replied s (some [code]))
    (Awaits s .trackEnEnable →
      let fits := s.tracker.tolNarrow ≤ s.tracker.tolWide ∧ 2 * s.tracker.tolWide < s.timer.active.period
      (s.tracker.trackEn = true → exec .trackEnEnable s = ok s) ∧
      (s.tracker.trackEn = false → ¬fits → exec .trackEnEnable s = nak 0x04#8) ∧
      (s.tracker.trackEn = false → s.tracker.state = .free → fits → exec .trackEnEnable s = ok
        (s.setTracker
          { s.tracker with
            trackEn := true, state := .acquire, goodCount := 0, lockCount := 0, holdoverCount := 0
            reference := none }))) ∧
    (Awaits s .trackEnDisable →
      let off := s.setTracker
        { s.tracker with
          trackEn := false, state := .free, goodCount := 0, lockCount := 0, holdoverCount := 0, reference := none }
      let raised := if s.tracker.state = .locked then raiseCause .lockLost off else off
      (s.tracker.trackEn = false → exec .trackEnDisable s = ok s) ∧
      (s.tracker.trackEn = true → s.timer.phase < s.timer.active.period → exec .trackEnDisable s = ok raised) ∧
      (s.tracker.trackEn = true → s.timer.active.period ≤ s.timer.phase →
        exec .trackEnDisable s = ok (takeBoundary raised))) ∧
    ∀ v, Awaits s (.gateWrite v) →
      (2 < v.toNat → exec (.gateWrite v) s = nak 0x04#8) ∧
      ∀ g, v.toNat = gateCode g →
        let stored := s.setTracker { s.tracker with gate := g }
        (gateOpen s = false → gateOpen stored = true → exec (.gateWrite v) s = ok (permissionReturn stored)) ∧
        (gateOpen s = true ∨ gateOpen stored = false → exec (.gateWrite v) s = ok stored)

/-- ENABLE_SET_WRITE (R158) and ACK_ATTN (R160), with ATTNn re-evaluated (R157). -/
def Obligations.EnableSetAndAcknowledge : Prop :=
  ∀ (s : State) (v : Word),
    (Awaits s (.enableSetWrite v) →
      (v.toNat < 65536 → exec (.enableSetWrite v) s = .next
        (replied
          (s.setAttention
            { causes := s.attention.causes
              enabled := v.setWidth 16
              asserted := s.attention.causes &&& v.setWidth 16 != 0#16 })
          (some [0x00#8]))) ∧
      (65536 ≤ v.toNat → exec (.enableSetWrite v) s = .next (replied s (some [0x04#8])))) ∧
    (Awaits s (.ackAttn v) →
      (v.toNat < 65536 → ∃ set, exec (.ackAttn v) s = .next
          (replied
            (s.setAttention
              { causes := set, enabled := s.attention.enabled
                asserted := set &&& s.attention.enabled != 0#16 })
            (some [0x00#8])) ∧
        ∀ c, inCauseSet set c = (inCauseSet s.attention.causes c && !inCauseSet (v.setWidth 16) c)) ∧
      (65536 ≤ v.toNat → exec (.ackAttn v) s = .next (replied s (some [0x04#8]))))

/-- READ_RECORD (R150): the first record behind the read ones is marked read and returned in its 48 bytes, each field at its
offset (R189, R191); with no record unread, NO_RECORD. -/
def Obligations.ReadRecordReturnsTheOldestUnread : Prop :=
  (∀ s : State, Awaits s .readRecord →
    ((∀ e ∈ s.ring, e.isRead = true) → exec .readRecord s = .next (replied s (some [0x17#8]))) ∧
    ∀ front e back, s.ring = front ++ e :: back → (∀ x ∈ front, x.isRead = true) → e.isRead = false →
      exec .readRecord s = .next
        (replied (s.setRing (front ++ { e with isRead := true } :: back)) (some (0x00#8 :: recordBytes e.record))) ∧
      unreadCount (front ++ { e with isRead := true } :: back) + 1 = unreadCount s.ring) ∧
  BigEndian ∧ ∀ r : CommitRecord, RecordLayout r (recordBytes r)

/-- HOLD (R132) and RELEASE (R134), the status flag, and the hold frame count at an expiry. -/
def Obligations.HoldAndRelease : Prop :=
  ∀ s : State,
    (Awaits s .hold →
      (s.sealing.hold = .notHeld → exec .hold s = .next
        (replied (s.setSealing { s.sealing with hold := .held, holdCount := 0, expired := false })
          (some [0x00#8]))) ∧
      (s.sealing.hold = .held → exec .hold s = .next (replied s (some [0x11#8])))) ∧
    ((statusByte s).getLsbD 6 = true ↔ s.sealing.hold = .held) ∧
    (Awaits s .release →
      (s.sealing.hold = .held → exec .release s = .next
        (replied (permissionReturn (s.setSealing { s.sealing with hold := .notHeld, holdCount := 0 }))
          (some [0x00#8]))) ∧
      (s.sealing.hold = .notHeld → s.sealing.expired = true → exec .release s = .next
        (replied (s.setSealing { s.sealing with expired := false }) (some [0x13#8]))) ∧
      (s.sealing.hold = .notHeld → s.sealing.expired = false →
        exec .release s = .next (replied s (some [0x12#8])))) ∧
    (s.sealing.hold = .notHeld → reportBoundary s = s) ∧
    (expireHold s).sealing.holdCount = s.sealing.holdCount

/-- COMMIT_NOW (R130, R131): HELD, ALREADY_PENDING, or the flag, taken at once under command permission; and ABORT_OPEN
(R135): EMPTY, or the discard with its record, ABORTED, the owed-seal flag cleared, the count in the reply, and a stalled
write offered again. -/
def Obligations.CommitNowAndAbortOpen : Prop :=
  ∀ s : State,
    (Awaits s .commitNow →
      (s.sealing.hold = .held → exec .commitNow s = .next (replied s (some [0x10#8]))) ∧
      (s.sealing.hold = .notHeld → s.sealing.commitNow = true →
        exec .commitNow s = .next (replied s (some [0x15#8]))) ∧
      (s.sealing.hold = .notHeld → s.sealing.commitNow = false →
        let flagged := s.setSealing { s.sealing with commitNow := true }
        (commandPermission s = false → exec .commitNow s = .next (replied flagged (some [0x00#8]))) ∧
        (commandPermission s = true → openEntries s.store = [] →
          exec .commitNow s = .next (replied s (some [0x00#8]))) ∧
        (commandPermission s = true → openEntries s.store ≠ [] → exec .commitNow s = .next
          (replied (takeSeal .commitNow { frame := s.timer.frame, phase := s.timer.phase } flagged)
            (some [0x00#8]))))) ∧
    (Awaits s .abortOpen →
      (openEntries s.store = [] → exec .abortOpen s = .next (replied s (some [0x14#8]))) ∧
      ∀ b, s.store.openBody = some b → b.entries ≠ [] →
        let discarded := (raiseCause .aborted
          ((s.setStore
            { openNumber := s.store.openNumber + 1#32, openBody := none, sealedGen := s.store.sealedGen }).setRing
            (ringWith s.ring
              { number := s.store.openNumber
                outcome := .aborted
                late := false
                entryCount := b.entries.length
                byteCount := (b.entries.map fun e => laneCount e.lanes).sum
                droppedCount := 0
                windowSet := b.windowSet
                firstWrite := b.firstWrite
                lastWrite := b.lastWrite
                deferral := b.deferral
                sealFields := none }))).setSealing { s.sealing with owed := false }
        let reply := some (0x00#8 :: bytes16 (BitVec.ofNat 16 b.entries.length))
        (s.uport.stall = none → exec .abortOpen s = .next (replied discarded reply)) ∧
        ∀ due e, s.uport.stall = some due → takingHead s.uport = some e →
          exec .abortOpen s = .next (replied (attemptTaking e discarded) reply))

/-- APPLY_TABLE (R31), CANCEL_APPLY (R32) and CLEAR_FAULT (R41), with the status flag of an armed apply. -/
def Obligations.ApplyCancelAndClearFault : Prop :=
  ∀ s : State,
    (Awaits s .applyTable →
      (s.windows.applyState = .idle → exec .applyTable s = .next
        (replied (s.setWindows { s.windows with applyState := .armed }) (some [0x00#8]))) ∧
      (s.windows.applyState = .armed → exec .applyTable s = .next (replied s (some [0x06#8])))) ∧
    ((statusByte s).getLsbD 3 = true ↔ s.windows.applyState = .armed) ∧
    (Awaits s .cancelApply →
      (s.windows.applyState = .armed → exec .cancelApply s = .next
        (replied (s.setWindows { s.windows with applyState := .idle, lastOutcome := .cancelled })
          (some [0x00#8]))) ∧
      (s.windows.applyState = .idle → exec .cancelApply s = .next (replied s (some [0x16#8])))) ∧
    ∀ index, Awaits s (.clearFault index) →
      (index.toNat < 16 → ∃ set,
        exec (.clearFault index) s = .next
          (replied (s.setWindows { s.windows with faultSet := set }) (some [0x00#8])) ∧
        ∀ w, runStateOf { s.windows with faultSet := set } w =
          if w.val = index.toNat then .normal else runStateOf s.windows w) ∧
      (16 ≤ index.toNat → exec (.clearFault index) s = .next (replied s (some [0x04#8])))

end Statements
end

