-- ==== Sys2Proof/Laws/State.lean ====
section
/-! SUPPORT. One lemma for each field of `State` under each update of one field, true by rfl, so that no later proof
unfolds a record update. -/

namespace Sys2Proof.Machine

@[simp] theorem State.setNow_now (s : State) (x : Nat) : (s.setNow x).now = x := rfl
@[simp] theorem State.setNow_srstn (s : State) (x : Nat) : (s.setNow x).srstn = s.srstn := rfl
@[simp] theorem State.setNow_sync (s : State) (x : Nat) : (s.setNow x).sync = s.sync := rfl
@[simp] theorem State.setNow_store (s : State) (x : Nat) : (s.setNow x).store = s.store := rfl
@[simp] theorem State.setNow_windows (s : State) (x : Nat) : (s.setNow x).windows = s.windows := rfl
@[simp] theorem State.setNow_uport (s : State) (x : Nat) : (s.setNow x).uport = s.uport := rfl
@[simp] theorem State.setNow_drain (s : State) (x : Nat) : (s.setNow x).drain = s.drain := rfl
@[simp] theorem State.setNow_dport (s : State) (x : Nat) : (s.setNow x).dport = s.dport := rfl
@[simp] theorem State.setNow_timer (s : State) (x : Nat) : (s.setNow x).timer = s.timer := rfl
@[simp] theorem State.setNow_tracker (s : State) (x : Nat) : (s.setNow x).tracker = s.tracker := rfl
@[simp] theorem State.setNow_sealing (s : State) (x : Nat) : (s.setNow x).sealing = s.sealing := rfl
@[simp] theorem State.setNow_ring (s : State) (x : Nat) : (s.setNow x).ring = s.ring := rfl
@[simp] theorem State.setNow_attention (s : State) (x : Nat) : (s.setNow x).attention = s.attention := rfl
@[simp] theorem State.setNow_management (s : State) (x : Nat) : (s.setNow x).management = s.management := rfl
@[simp] theorem State.setNow_drawn (s : State) (x : Nat) : (s.setNow x).drawn = s.drawn := rfl
@[simp] theorem State.setNow_pending (s : State) (x : Nat) : (s.setNow x).pending = s.pending := rfl

@[simp] theorem State.setSrstn_now (s : State) (x : Level) : (s.setSrstn x).now = s.now := rfl
@[simp] theorem State.setSrstn_srstn (s : State) (x : Level) : (s.setSrstn x).srstn = x := rfl
@[simp] theorem State.setSrstn_sync (s : State) (x : Level) : (s.setSrstn x).sync = s.sync := rfl
@[simp] theorem State.setSrstn_store (s : State) (x : Level) : (s.setSrstn x).store = s.store := rfl
@[simp] theorem State.setSrstn_windows (s : State) (x : Level) : (s.setSrstn x).windows = s.windows := rfl
@[simp] theorem State.setSrstn_uport (s : State) (x : Level) : (s.setSrstn x).uport = s.uport := rfl
@[simp] theorem State.setSrstn_drain (s : State) (x : Level) : (s.setSrstn x).drain = s.drain := rfl
@[simp] theorem State.setSrstn_dport (s : State) (x : Level) : (s.setSrstn x).dport = s.dport := rfl
@[simp] theorem State.setSrstn_timer (s : State) (x : Level) : (s.setSrstn x).timer = s.timer := rfl
@[simp] theorem State.setSrstn_tracker (s : State) (x : Level) : (s.setSrstn x).tracker = s.tracker := rfl
@[simp] theorem State.setSrstn_sealing (s : State) (x : Level) : (s.setSrstn x).sealing = s.sealing := rfl
@[simp] theorem State.setSrstn_ring (s : State) (x : Level) : (s.setSrstn x).ring = s.ring := rfl
@[simp] theorem State.setSrstn_attention (s : State) (x : Level) : (s.setSrstn x).attention = s.attention := rfl
@[simp] theorem State.setSrstn_management (s : State) (x : Level) : (s.setSrstn x).management = s.management := rfl
@[simp] theorem State.setSrstn_drawn (s : State) (x : Level) : (s.setSrstn x).drawn = s.drawn := rfl
@[simp] theorem State.setSrstn_pending (s : State) (x : Level) : (s.setSrstn x).pending = s.pending := rfl

@[simp] theorem State.setSync_now (s : State) (x : SyncInput) : (s.setSync x).now = s.now := rfl
@[simp] theorem State.setSync_srstn (s : State) (x : SyncInput) : (s.setSync x).srstn = s.srstn := rfl
@[simp] theorem State.setSync_sync (s : State) (x : SyncInput) : (s.setSync x).sync = x := rfl
@[simp] theorem State.setSync_store (s : State) (x : SyncInput) : (s.setSync x).store = s.store := rfl
@[simp] theorem State.setSync_windows (s : State) (x : SyncInput) : (s.setSync x).windows = s.windows := rfl
@[simp] theorem State.setSync_uport (s : State) (x : SyncInput) : (s.setSync x).uport = s.uport := rfl
@[simp] theorem State.setSync_drain (s : State) (x : SyncInput) : (s.setSync x).drain = s.drain := rfl
@[simp] theorem State.setSync_dport (s : State) (x : SyncInput) : (s.setSync x).dport = s.dport := rfl
@[simp] theorem State.setSync_timer (s : State) (x : SyncInput) : (s.setSync x).timer = s.timer := rfl
@[simp] theorem State.setSync_tracker (s : State) (x : SyncInput) : (s.setSync x).tracker = s.tracker := rfl
@[simp] theorem State.setSync_sealing (s : State) (x : SyncInput) : (s.setSync x).sealing = s.sealing := rfl
@[simp] theorem State.setSync_ring (s : State) (x : SyncInput) : (s.setSync x).ring = s.ring := rfl
@[simp] theorem State.setSync_attention (s : State) (x : SyncInput) : (s.setSync x).attention = s.attention := rfl
@[simp] theorem State.setSync_management (s : State) (x : SyncInput) : (s.setSync x).management = s.management := rfl
@[simp] theorem State.setSync_drawn (s : State) (x : SyncInput) : (s.setSync x).drawn = s.drawn := rfl
@[simp] theorem State.setSync_pending (s : State) (x : SyncInput) : (s.setSync x).pending = s.pending := rfl

@[simp] theorem State.setStore_now (s : State) (x : Store) : (s.setStore x).now = s.now := rfl
@[simp] theorem State.setStore_srstn (s : State) (x : Store) : (s.setStore x).srstn = s.srstn := rfl
@[simp] theorem State.setStore_sync (s : State) (x : Store) : (s.setStore x).sync = s.sync := rfl
@[simp] theorem State.setStore_store (s : State) (x : Store) : (s.setStore x).store = x := rfl
@[simp] theorem State.setStore_windows (s : State) (x : Store) : (s.setStore x).windows = s.windows := rfl
@[simp] theorem State.setStore_uport (s : State) (x : Store) : (s.setStore x).uport = s.uport := rfl
@[simp] theorem State.setStore_drain (s : State) (x : Store) : (s.setStore x).drain = s.drain := rfl
@[simp] theorem State.setStore_dport (s : State) (x : Store) : (s.setStore x).dport = s.dport := rfl
@[simp] theorem State.setStore_timer (s : State) (x : Store) : (s.setStore x).timer = s.timer := rfl
@[simp] theorem State.setStore_tracker (s : State) (x : Store) : (s.setStore x).tracker = s.tracker := rfl
@[simp] theorem State.setStore_sealing (s : State) (x : Store) : (s.setStore x).sealing = s.sealing := rfl
@[simp] theorem State.setStore_ring (s : State) (x : Store) : (s.setStore x).ring = s.ring := rfl
@[simp] theorem State.setStore_attention (s : State) (x : Store) : (s.setStore x).attention = s.attention := rfl
@[simp] theorem State.setStore_management (s : State) (x : Store) : (s.setStore x).management = s.management := rfl
@[simp] theorem State.setStore_drawn (s : State) (x : Store) : (s.setStore x).drawn = s.drawn := rfl
@[simp] theorem State.setStore_pending (s : State) (x : Store) : (s.setStore x).pending = s.pending := rfl

@[simp] theorem State.setWindows_now (s : State) (x : WindowTable) : (s.setWindows x).now = s.now := rfl
@[simp] theorem State.setWindows_srstn (s : State) (x : WindowTable) : (s.setWindows x).srstn = s.srstn := rfl
@[simp] theorem State.setWindows_sync (s : State) (x : WindowTable) : (s.setWindows x).sync = s.sync := rfl
@[simp] theorem State.setWindows_store (s : State) (x : WindowTable) : (s.setWindows x).store = s.store := rfl
@[simp] theorem State.setWindows_windows (s : State) (x : WindowTable) : (s.setWindows x).windows = x := rfl
@[simp] theorem State.setWindows_uport (s : State) (x : WindowTable) : (s.setWindows x).uport = s.uport := rfl
@[simp] theorem State.setWindows_drain (s : State) (x : WindowTable) : (s.setWindows x).drain = s.drain := rfl
@[simp] theorem State.setWindows_dport (s : State) (x : WindowTable) : (s.setWindows x).dport = s.dport := rfl
@[simp] theorem State.setWindows_timer (s : State) (x : WindowTable) : (s.setWindows x).timer = s.timer := rfl
@[simp] theorem State.setWindows_tracker (s : State) (x : WindowTable) : (s.setWindows x).tracker = s.tracker := rfl
@[simp] theorem State.setWindows_sealing (s : State) (x : WindowTable) : (s.setWindows x).sealing = s.sealing := rfl
@[simp] theorem State.setWindows_ring (s : State) (x : WindowTable) : (s.setWindows x).ring = s.ring := rfl
@[simp] theorem State.setWindows_attention (s : State) (x : WindowTable) : (s.setWindows x).attention = s.attention := rfl
@[simp] theorem State.setWindows_management (s : State) (x : WindowTable) : (s.setWindows x).management = s.management := rfl
@[simp] theorem State.setWindows_drawn (s : State) (x : WindowTable) : (s.setWindows x).drawn = s.drawn := rfl
@[simp] theorem State.setWindows_pending (s : State) (x : WindowTable) : (s.setWindows x).pending = s.pending := rfl

@[simp] theorem State.setUport_now (s : State) (x : UPort) : (s.setUport x).now = s.now := rfl
@[simp] theorem State.setUport_srstn (s : State) (x : UPort) : (s.setUport x).srstn = s.srstn := rfl
@[simp] theorem State.setUport_sync (s : State) (x : UPort) : (s.setUport x).sync = s.sync := rfl
@[simp] theorem State.setUport_store (s : State) (x : UPort) : (s.setUport x).store = s.store := rfl
@[simp] theorem State.setUport_windows (s : State) (x : UPort) : (s.setUport x).windows = s.windows := rfl
@[simp] theorem State.setUport_uport (s : State) (x : UPort) : (s.setUport x).uport = x := rfl
@[simp] theorem State.setUport_drain (s : State) (x : UPort) : (s.setUport x).drain = s.drain := rfl
@[simp] theorem State.setUport_dport (s : State) (x : UPort) : (s.setUport x).dport = s.dport := rfl
@[simp] theorem State.setUport_timer (s : State) (x : UPort) : (s.setUport x).timer = s.timer := rfl
@[simp] theorem State.setUport_tracker (s : State) (x : UPort) : (s.setUport x).tracker = s.tracker := rfl
@[simp] theorem State.setUport_sealing (s : State) (x : UPort) : (s.setUport x).sealing = s.sealing := rfl
@[simp] theorem State.setUport_ring (s : State) (x : UPort) : (s.setUport x).ring = s.ring := rfl
@[simp] theorem State.setUport_attention (s : State) (x : UPort) : (s.setUport x).attention = s.attention := rfl
@[simp] theorem State.setUport_management (s : State) (x : UPort) : (s.setUport x).management = s.management := rfl
@[simp] theorem State.setUport_drawn (s : State) (x : UPort) : (s.setUport x).drawn = s.drawn := rfl
@[simp] theorem State.setUport_pending (s : State) (x : UPort) : (s.setUport x).pending = s.pending := rfl

@[simp] theorem State.setDrain_now (s : State) (x : DrainEngine) : (s.setDrain x).now = s.now := rfl
@[simp] theorem State.setDrain_srstn (s : State) (x : DrainEngine) : (s.setDrain x).srstn = s.srstn := rfl
@[simp] theorem State.setDrain_sync (s : State) (x : DrainEngine) : (s.setDrain x).sync = s.sync := rfl
@[simp] theorem State.setDrain_store (s : State) (x : DrainEngine) : (s.setDrain x).store = s.store := rfl
@[simp] theorem State.setDrain_windows (s : State) (x : DrainEngine) : (s.setDrain x).windows = s.windows := rfl
@[simp] theorem State.setDrain_uport (s : State) (x : DrainEngine) : (s.setDrain x).uport = s.uport := rfl
@[simp] theorem State.setDrain_drain (s : State) (x : DrainEngine) : (s.setDrain x).drain = x := rfl
@[simp] theorem State.setDrain_dport (s : State) (x : DrainEngine) : (s.setDrain x).dport = s.dport := rfl
@[simp] theorem State.setDrain_timer (s : State) (x : DrainEngine) : (s.setDrain x).timer = s.timer := rfl
@[simp] theorem State.setDrain_tracker (s : State) (x : DrainEngine) : (s.setDrain x).tracker = s.tracker := rfl
@[simp] theorem State.setDrain_sealing (s : State) (x : DrainEngine) : (s.setDrain x).sealing = s.sealing := rfl
@[simp] theorem State.setDrain_ring (s : State) (x : DrainEngine) : (s.setDrain x).ring = s.ring := rfl
@[simp] theorem State.setDrain_attention (s : State) (x : DrainEngine) : (s.setDrain x).attention = s.attention := rfl
@[simp] theorem State.setDrain_management (s : State) (x : DrainEngine) : (s.setDrain x).management = s.management := rfl
@[simp] theorem State.setDrain_drawn (s : State) (x : DrainEngine) : (s.setDrain x).drawn = s.drawn := rfl
@[simp] theorem State.setDrain_pending (s : State) (x : DrainEngine) : (s.setDrain x).pending = s.pending := rfl

@[simp] theorem State.setDport_now (s : State) (x : DPort) : (s.setDport x).now = s.now := rfl
@[simp] theorem State.setDport_srstn (s : State) (x : DPort) : (s.setDport x).srstn = s.srstn := rfl
@[simp] theorem State.setDport_sync (s : State) (x : DPort) : (s.setDport x).sync = s.sync := rfl
@[simp] theorem State.setDport_store (s : State) (x : DPort) : (s.setDport x).store = s.store := rfl
@[simp] theorem State.setDport_windows (s : State) (x : DPort) : (s.setDport x).windows = s.windows := rfl
@[simp] theorem State.setDport_uport (s : State) (x : DPort) : (s.setDport x).uport = s.uport := rfl
@[simp] theorem State.setDport_drain (s : State) (x : DPort) : (s.setDport x).drain = s.drain := rfl
@[simp] theorem State.setDport_dport (s : State) (x : DPort) : (s.setDport x).dport = x := rfl
@[simp] theorem State.setDport_timer (s : State) (x : DPort) : (s.setDport x).timer = s.timer := rfl
@[simp] theorem State.setDport_tracker (s : State) (x : DPort) : (s.setDport x).tracker = s.tracker := rfl
@[simp] theorem State.setDport_sealing (s : State) (x : DPort) : (s.setDport x).sealing = s.sealing := rfl
@[simp] theorem State.setDport_ring (s : State) (x : DPort) : (s.setDport x).ring = s.ring := rfl
@[simp] theorem State.setDport_attention (s : State) (x : DPort) : (s.setDport x).attention = s.attention := rfl
@[simp] theorem State.setDport_management (s : State) (x : DPort) : (s.setDport x).management = s.management := rfl
@[simp] theorem State.setDport_drawn (s : State) (x : DPort) : (s.setDport x).drawn = s.drawn := rfl
@[simp] theorem State.setDport_pending (s : State) (x : DPort) : (s.setDport x).pending = s.pending := rfl

@[simp] theorem State.setTimer_now (s : State) (x : FrameTimer) : (s.setTimer x).now = s.now := rfl
@[simp] theorem State.setTimer_srstn (s : State) (x : FrameTimer) : (s.setTimer x).srstn = s.srstn := rfl
@[simp] theorem State.setTimer_sync (s : State) (x : FrameTimer) : (s.setTimer x).sync = s.sync := rfl
@[simp] theorem State.setTimer_store (s : State) (x : FrameTimer) : (s.setTimer x).store = s.store := rfl
@[simp] theorem State.setTimer_windows (s : State) (x : FrameTimer) : (s.setTimer x).windows = s.windows := rfl
@[simp] theorem State.setTimer_uport (s : State) (x : FrameTimer) : (s.setTimer x).uport = s.uport := rfl
@[simp] theorem State.setTimer_drain (s : State) (x : FrameTimer) : (s.setTimer x).drain = s.drain := rfl
@[simp] theorem State.setTimer_dport (s : State) (x : FrameTimer) : (s.setTimer x).dport = s.dport := rfl
@[simp] theorem State.setTimer_timer (s : State) (x : FrameTimer) : (s.setTimer x).timer = x := rfl
@[simp] theorem State.setTimer_tracker (s : State) (x : FrameTimer) : (s.setTimer x).tracker = s.tracker := rfl
@[simp] theorem State.setTimer_sealing (s : State) (x : FrameTimer) : (s.setTimer x).sealing = s.sealing := rfl
@[simp] theorem State.setTimer_ring (s : State) (x : FrameTimer) : (s.setTimer x).ring = s.ring := rfl
@[simp] theorem State.setTimer_attention (s : State) (x : FrameTimer) : (s.setTimer x).attention = s.attention := rfl
@[simp] theorem State.setTimer_management (s : State) (x : FrameTimer) : (s.setTimer x).management = s.management := rfl
@[simp] theorem State.setTimer_drawn (s : State) (x : FrameTimer) : (s.setTimer x).drawn = s.drawn := rfl
@[simp] theorem State.setTimer_pending (s : State) (x : FrameTimer) : (s.setTimer x).pending = s.pending := rfl

@[simp] theorem State.setTracker_now (s : State) (x : Tracker) : (s.setTracker x).now = s.now := rfl
@[simp] theorem State.setTracker_srstn (s : State) (x : Tracker) : (s.setTracker x).srstn = s.srstn := rfl
@[simp] theorem State.setTracker_sync (s : State) (x : Tracker) : (s.setTracker x).sync = s.sync := rfl
@[simp] theorem State.setTracker_store (s : State) (x : Tracker) : (s.setTracker x).store = s.store := rfl
@[simp] theorem State.setTracker_windows (s : State) (x : Tracker) : (s.setTracker x).windows = s.windows := rfl
@[simp] theorem State.setTracker_uport (s : State) (x : Tracker) : (s.setTracker x).uport = s.uport := rfl
@[simp] theorem State.setTracker_drain (s : State) (x : Tracker) : (s.setTracker x).drain = s.drain := rfl
@[simp] theorem State.setTracker_dport (s : State) (x : Tracker) : (s.setTracker x).dport = s.dport := rfl
@[simp] theorem State.setTracker_timer (s : State) (x : Tracker) : (s.setTracker x).timer = s.timer := rfl
@[simp] theorem State.setTracker_tracker (s : State) (x : Tracker) : (s.setTracker x).tracker = x := rfl
@[simp] theorem State.setTracker_sealing (s : State) (x : Tracker) : (s.setTracker x).sealing = s.sealing := rfl
@[simp] theorem State.setTracker_ring (s : State) (x : Tracker) : (s.setTracker x).ring = s.ring := rfl
@[simp] theorem State.setTracker_attention (s : State) (x : Tracker) : (s.setTracker x).attention = s.attention := rfl
@[simp] theorem State.setTracker_management (s : State) (x : Tracker) : (s.setTracker x).management = s.management := rfl
@[simp] theorem State.setTracker_drawn (s : State) (x : Tracker) : (s.setTracker x).drawn = s.drawn := rfl
@[simp] theorem State.setTracker_pending (s : State) (x : Tracker) : (s.setTracker x).pending = s.pending := rfl

@[simp] theorem State.setSealing_now (s : State) (x : SealControl) : (s.setSealing x).now = s.now := rfl
@[simp] theorem State.setSealing_srstn (s : State) (x : SealControl) : (s.setSealing x).srstn = s.srstn := rfl
@[simp] theorem State.setSealing_sync (s : State) (x : SealControl) : (s.setSealing x).sync = s.sync := rfl
@[simp] theorem State.setSealing_store (s : State) (x : SealControl) : (s.setSealing x).store = s.store := rfl
@[simp] theorem State.setSealing_windows (s : State) (x : SealControl) : (s.setSealing x).windows = s.windows := rfl
@[simp] theorem State.setSealing_uport (s : State) (x : SealControl) : (s.setSealing x).uport = s.uport := rfl
@[simp] theorem State.setSealing_drain (s : State) (x : SealControl) : (s.setSealing x).drain = s.drain := rfl
@[simp] theorem State.setSealing_dport (s : State) (x : SealControl) : (s.setSealing x).dport = s.dport := rfl
@[simp] theorem State.setSealing_timer (s : State) (x : SealControl) : (s.setSealing x).timer = s.timer := rfl
@[simp] theorem State.setSealing_tracker (s : State) (x : SealControl) : (s.setSealing x).tracker = s.tracker := rfl
@[simp] theorem State.setSealing_sealing (s : State) (x : SealControl) : (s.setSealing x).sealing = x := rfl
@[simp] theorem State.setSealing_ring (s : State) (x : SealControl) : (s.setSealing x).ring = s.ring := rfl
@[simp] theorem State.setSealing_attention (s : State) (x : SealControl) : (s.setSealing x).attention = s.attention := rfl
@[simp] theorem State.setSealing_management (s : State) (x : SealControl) : (s.setSealing x).management = s.management := rfl
@[simp] theorem State.setSealing_drawn (s : State) (x : SealControl) : (s.setSealing x).drawn = s.drawn := rfl
@[simp] theorem State.setSealing_pending (s : State) (x : SealControl) : (s.setSealing x).pending = s.pending := rfl

@[simp] theorem State.setRing_now (s : State) (x : List RingEntry) : (s.setRing x).now = s.now := rfl
@[simp] theorem State.setRing_srstn (s : State) (x : List RingEntry) : (s.setRing x).srstn = s.srstn := rfl
@[simp] theorem State.setRing_sync (s : State) (x : List RingEntry) : (s.setRing x).sync = s.sync := rfl
@[simp] theorem State.setRing_store (s : State) (x : List RingEntry) : (s.setRing x).store = s.store := rfl
@[simp] theorem State.setRing_windows (s : State) (x : List RingEntry) : (s.setRing x).windows = s.windows := rfl
@[simp] theorem State.setRing_uport (s : State) (x : List RingEntry) : (s.setRing x).uport = s.uport := rfl
@[simp] theorem State.setRing_drain (s : State) (x : List RingEntry) : (s.setRing x).drain = s.drain := rfl
@[simp] theorem State.setRing_dport (s : State) (x : List RingEntry) : (s.setRing x).dport = s.dport := rfl
@[simp] theorem State.setRing_timer (s : State) (x : List RingEntry) : (s.setRing x).timer = s.timer := rfl
@[simp] theorem State.setRing_tracker (s : State) (x : List RingEntry) : (s.setRing x).tracker = s.tracker := rfl
@[simp] theorem State.setRing_sealing (s : State) (x : List RingEntry) : (s.setRing x).sealing = s.sealing := rfl
@[simp] theorem State.setRing_ring (s : State) (x : List RingEntry) : (s.setRing x).ring = x := rfl
@[simp] theorem State.setRing_attention (s : State) (x : List RingEntry) : (s.setRing x).attention = s.attention := rfl
@[simp] theorem State.setRing_management (s : State) (x : List RingEntry) : (s.setRing x).management = s.management := rfl
@[simp] theorem State.setRing_drawn (s : State) (x : List RingEntry) : (s.setRing x).drawn = s.drawn := rfl
@[simp] theorem State.setRing_pending (s : State) (x : List RingEntry) : (s.setRing x).pending = s.pending := rfl

@[simp] theorem State.setAttention_now (s : State) (x : Attention) : (s.setAttention x).now = s.now := rfl
@[simp] theorem State.setAttention_srstn (s : State) (x : Attention) : (s.setAttention x).srstn = s.srstn := rfl
@[simp] theorem State.setAttention_sync (s : State) (x : Attention) : (s.setAttention x).sync = s.sync := rfl
@[simp] theorem State.setAttention_store (s : State) (x : Attention) : (s.setAttention x).store = s.store := rfl
@[simp] theorem State.setAttention_windows (s : State) (x : Attention) : (s.setAttention x).windows = s.windows := rfl
@[simp] theorem State.setAttention_uport (s : State) (x : Attention) : (s.setAttention x).uport = s.uport := rfl
@[simp] theorem State.setAttention_drain (s : State) (x : Attention) : (s.setAttention x).drain = s.drain := rfl
@[simp] theorem State.setAttention_dport (s : State) (x : Attention) : (s.setAttention x).dport = s.dport := rfl
@[simp] theorem State.setAttention_timer (s : State) (x : Attention) : (s.setAttention x).timer = s.timer := rfl
@[simp] theorem State.setAttention_tracker (s : State) (x : Attention) : (s.setAttention x).tracker = s.tracker := rfl
@[simp] theorem State.setAttention_sealing (s : State) (x : Attention) : (s.setAttention x).sealing = s.sealing := rfl
@[simp] theorem State.setAttention_ring (s : State) (x : Attention) : (s.setAttention x).ring = s.ring := rfl
@[simp] theorem State.setAttention_attention (s : State) (x : Attention) : (s.setAttention x).attention = x := rfl
@[simp] theorem State.setAttention_management (s : State) (x : Attention) : (s.setAttention x).management = s.management := rfl
@[simp] theorem State.setAttention_drawn (s : State) (x : Attention) : (s.setAttention x).drawn = s.drawn := rfl
@[simp] theorem State.setAttention_pending (s : State) (x : Attention) : (s.setAttention x).pending = s.pending := rfl

@[simp] theorem State.setManagement_now (s : State) (x : Management) : (s.setManagement x).now = s.now := rfl
@[simp] theorem State.setManagement_srstn (s : State) (x : Management) : (s.setManagement x).srstn = s.srstn := rfl
@[simp] theorem State.setManagement_sync (s : State) (x : Management) : (s.setManagement x).sync = s.sync := rfl
@[simp] theorem State.setManagement_store (s : State) (x : Management) : (s.setManagement x).store = s.store := rfl
@[simp] theorem State.setManagement_windows (s : State) (x : Management) : (s.setManagement x).windows = s.windows := rfl
@[simp] theorem State.setManagement_uport (s : State) (x : Management) : (s.setManagement x).uport = s.uport := rfl
@[simp] theorem State.setManagement_drain (s : State) (x : Management) : (s.setManagement x).drain = s.drain := rfl
@[simp] theorem State.setManagement_dport (s : State) (x : Management) : (s.setManagement x).dport = s.dport := rfl
@[simp] theorem State.setManagement_timer (s : State) (x : Management) : (s.setManagement x).timer = s.timer := rfl
@[simp] theorem State.setManagement_tracker (s : State) (x : Management) : (s.setManagement x).tracker = s.tracker := rfl
@[simp] theorem State.setManagement_sealing (s : State) (x : Management) : (s.setManagement x).sealing = s.sealing := rfl
@[simp] theorem State.setManagement_ring (s : State) (x : Management) : (s.setManagement x).ring = s.ring := rfl
@[simp] theorem State.setManagement_attention (s : State) (x : Management) : (s.setManagement x).attention = s.attention := rfl
@[simp] theorem State.setManagement_management (s : State) (x : Management) : (s.setManagement x).management = x := rfl
@[simp] theorem State.setManagement_drawn (s : State) (x : Management) : (s.setManagement x).drawn = s.drawn := rfl
@[simp] theorem State.setManagement_pending (s : State) (x : Management) : (s.setManagement x).pending = s.pending := rfl

@[simp] theorem State.setDrawn_now (s : State) (x : Nat) : (s.setDrawn x).now = s.now := rfl
@[simp] theorem State.setDrawn_srstn (s : State) (x : Nat) : (s.setDrawn x).srstn = s.srstn := rfl
@[simp] theorem State.setDrawn_sync (s : State) (x : Nat) : (s.setDrawn x).sync = s.sync := rfl
@[simp] theorem State.setDrawn_store (s : State) (x : Nat) : (s.setDrawn x).store = s.store := rfl
@[simp] theorem State.setDrawn_windows (s : State) (x : Nat) : (s.setDrawn x).windows = s.windows := rfl
@[simp] theorem State.setDrawn_uport (s : State) (x : Nat) : (s.setDrawn x).uport = s.uport := rfl
@[simp] theorem State.setDrawn_drain (s : State) (x : Nat) : (s.setDrawn x).drain = s.drain := rfl
@[simp] theorem State.setDrawn_dport (s : State) (x : Nat) : (s.setDrawn x).dport = s.dport := rfl
@[simp] theorem State.setDrawn_timer (s : State) (x : Nat) : (s.setDrawn x).timer = s.timer := rfl
@[simp] theorem State.setDrawn_tracker (s : State) (x : Nat) : (s.setDrawn x).tracker = s.tracker := rfl
@[simp] theorem State.setDrawn_sealing (s : State) (x : Nat) : (s.setDrawn x).sealing = s.sealing := rfl
@[simp] theorem State.setDrawn_ring (s : State) (x : Nat) : (s.setDrawn x).ring = s.ring := rfl
@[simp] theorem State.setDrawn_attention (s : State) (x : Nat) : (s.setDrawn x).attention = s.attention := rfl
@[simp] theorem State.setDrawn_management (s : State) (x : Nat) : (s.setDrawn x).management = s.management := rfl
/-- The count set to what it is. -/
@[simp] theorem State.setDrawn_self (s : State) : s.setDrawn s.drawn = s := rfl
@[simp] theorem State.setDrawn_drawn (s : State) (x : Nat) : (s.setDrawn x).drawn = x := rfl
@[simp] theorem State.setDrawn_pending (s : State) (x : Nat) : (s.setDrawn x).pending = s.pending := rfl

@[simp] theorem State.setPending_now (s : State) (x : List Instr) : (s.setPending x).now = s.now := rfl
@[simp] theorem State.setPending_srstn (s : State) (x : List Instr) : (s.setPending x).srstn = s.srstn := rfl
@[simp] theorem State.setPending_sync (s : State) (x : List Instr) : (s.setPending x).sync = s.sync := rfl
@[simp] theorem State.setPending_store (s : State) (x : List Instr) : (s.setPending x).store = s.store := rfl
@[simp] theorem State.setPending_windows (s : State) (x : List Instr) : (s.setPending x).windows = s.windows := rfl
@[simp] theorem State.setPending_uport (s : State) (x : List Instr) : (s.setPending x).uport = s.uport := rfl
@[simp] theorem State.setPending_drain (s : State) (x : List Instr) : (s.setPending x).drain = s.drain := rfl
@[simp] theorem State.setPending_dport (s : State) (x : List Instr) : (s.setPending x).dport = s.dport := rfl
@[simp] theorem State.setPending_timer (s : State) (x : List Instr) : (s.setPending x).timer = s.timer := rfl
@[simp] theorem State.setPending_tracker (s : State) (x : List Instr) : (s.setPending x).tracker = s.tracker := rfl
@[simp] theorem State.setPending_sealing (s : State) (x : List Instr) : (s.setPending x).sealing = s.sealing := rfl
@[simp] theorem State.setPending_ring (s : State) (x : List Instr) : (s.setPending x).ring = s.ring := rfl
@[simp] theorem State.setPending_attention (s : State) (x : List Instr) : (s.setPending x).attention = s.attention := rfl
@[simp] theorem State.setPending_management (s : State) (x : List Instr) : (s.setPending x).management = s.management := rfl
@[simp] theorem State.setPending_drawn (s : State) (x : List Instr) : (s.setPending x).drawn = s.drawn := rfl
@[simp] theorem State.setPending_pending (s : State) (x : List Instr) : (s.setPending x).pending = x := rfl

end Sys2Proof.Machine
end

