-- ==== Sys2Proof/Laws/Frames.lean ====
section
/-! SUPPORT. One lemma for each shared operation: the blocks of the state that it leaves as they were. Each is a simp
lemma, so a proof reads an untouched block through any chain of operations without unfolding one. -/

namespace Sys2Proof.Machine

/-- A raise changes the Attention Unit only (R156). -/
@[simp] theorem raiseCause_keeps (c : Cause) (s : State) :
    (raiseCause c s).now = s.now ∧
      (raiseCause c s).srstn = s.srstn ∧
      (raiseCause c s).sync = s.sync ∧
      (raiseCause c s).store = s.store ∧
      (raiseCause c s).windows = s.windows ∧
      (raiseCause c s).uport = s.uport ∧
      (raiseCause c s).drain = s.drain ∧
      (raiseCause c s).dport = s.dport ∧
      (raiseCause c s).timer = s.timer ∧
      (raiseCause c s).tracker = s.tracker ∧
      (raiseCause c s).sealing = s.sealing ∧
      (raiseCause c s).ring = s.ring ∧
      (raiseCause c s).management = s.management ∧
      (raiseCause c s).drawn = s.drawn ∧
      (raiseCause c s).pending = s.pending := by
  simp [raiseCause]

/-- Raises change the Attention Unit only (R156). -/
@[simp] theorem raiseAll_keeps (cs : List Cause) (s : State) :
    (raiseAll cs s).now = s.now ∧
      (raiseAll cs s).srstn = s.srstn ∧
      (raiseAll cs s).sync = s.sync ∧
      (raiseAll cs s).store = s.store ∧
      (raiseAll cs s).windows = s.windows ∧
      (raiseAll cs s).uport = s.uport ∧
      (raiseAll cs s).drain = s.drain ∧
      (raiseAll cs s).dport = s.dport ∧
      (raiseAll cs s).timer = s.timer ∧
      (raiseAll cs s).tracker = s.tracker ∧
      (raiseAll cs s).sealing = s.sealing ∧
      (raiseAll cs s).ring = s.ring ∧
      (raiseAll cs s).management = s.management ∧
      (raiseAll cs s).drawn = s.drawn ∧
      (raiseAll cs s).pending = s.pending := by
  unfold raiseAll
  induction cs generalizing s with
  | nil => simp
  | cons c rest ih => simpa using ih (raiseCause c s)

/-- ACK_ATTN's removal changes the Attention Unit only (R160). -/
@[simp] theorem acknowledgeCauses_keeps (m : Half) (s : State) :
    (acknowledgeCauses m s).now = s.now ∧
      (acknowledgeCauses m s).srstn = s.srstn ∧
      (acknowledgeCauses m s).sync = s.sync ∧
      (acknowledgeCauses m s).store = s.store ∧
      (acknowledgeCauses m s).windows = s.windows ∧
      (acknowledgeCauses m s).uport = s.uport ∧
      (acknowledgeCauses m s).drain = s.drain ∧
      (acknowledgeCauses m s).dport = s.dport ∧
      (acknowledgeCauses m s).timer = s.timer ∧
      (acknowledgeCauses m s).tracker = s.tracker ∧
      (acknowledgeCauses m s).sealing = s.sealing ∧
      (acknowledgeCauses m s).ring = s.ring ∧
      (acknowledgeCauses m s).management = s.management ∧
      (acknowledgeCauses m s).drawn = s.drawn ∧
      (acknowledgeCauses m s).pending = s.pending := by
  simp [acknowledgeCauses]

/-- A write of the enable set changes the Attention Unit only (R158). -/
@[simp] theorem replaceEnableSet_keeps (m : Half) (s : State) :
    (replaceEnableSet m s).now = s.now ∧
      (replaceEnableSet m s).srstn = s.srstn ∧
      (replaceEnableSet m s).sync = s.sync ∧
      (replaceEnableSet m s).store = s.store ∧
      (replaceEnableSet m s).windows = s.windows ∧
      (replaceEnableSet m s).uport = s.uport ∧
      (replaceEnableSet m s).drain = s.drain ∧
      (replaceEnableSet m s).dport = s.dport ∧
      (replaceEnableSet m s).timer = s.timer ∧
      (replaceEnableSet m s).tracker = s.tracker ∧
      (replaceEnableSet m s).sealing = s.sealing ∧
      (replaceEnableSet m s).ring = s.ring ∧
      (replaceEnableSet m s).management = s.management ∧
      (replaceEnableSet m s).drawn = s.drawn ∧
      (replaceEnableSet m s).pending = s.pending := by
  simp [replaceEnableSet]

/-- An append changes the ring only (R143). -/
@[simp] theorem appendRecord_keeps (r : CommitRecord) (s : State) :
    (appendRecord r s).now = s.now ∧
      (appendRecord r s).srstn = s.srstn ∧
      (appendRecord r s).sync = s.sync ∧
      (appendRecord r s).store = s.store ∧
      (appendRecord r s).windows = s.windows ∧
      (appendRecord r s).uport = s.uport ∧
      (appendRecord r s).drain = s.drain ∧
      (appendRecord r s).dport = s.dport ∧
      (appendRecord r s).timer = s.timer ∧
      (appendRecord r s).tracker = s.tracker ∧
      (appendRecord r s).sealing = s.sealing ∧
      (appendRecord r s).attention = s.attention ∧
      (appendRecord r s).management = s.management ∧
      (appendRecord r s).drawn = s.drawn ∧
      (appendRecord r s).pending = s.pending := by
  simp [appendRecord]

/-- An apply changes the Window Table and raises a cause (R38). -/
@[simp] theorem performApply_keeps (s : State) :
    (performApply s).now = s.now ∧
      (performApply s).srstn = s.srstn ∧
      (performApply s).sync = s.sync ∧
      (performApply s).store = s.store ∧
      (performApply s).uport = s.uport ∧
      (performApply s).drain = s.drain ∧
      (performApply s).dport = s.dport ∧
      (performApply s).timer = s.timer ∧
      (performApply s).tracker = s.tracker ∧
      (performApply s).sealing = s.sealing ∧
      (performApply s).ring = s.ring ∧
      (performApply s).management = s.management ∧
      (performApply s).drawn = s.drawn ∧
      (performApply s).pending = s.pending := by
  unfold performApply
  (repeat' split) <;> simp

/-- Store and drain steps of a seal (R10, R63). -/
@[simp] theorem performSeal_keeps (c : SealCause) (t : Stamp) (s : State) :
    (performSeal c t s).now = s.now ∧
      (performSeal c t s).srstn = s.srstn ∧
      (performSeal c t s).sync = s.sync ∧
      (performSeal c t s).windows = s.windows ∧
      (performSeal c t s).uport = s.uport ∧
      (performSeal c t s).dport = s.dport ∧
      (performSeal c t s).timer = s.timer ∧
      (performSeal c t s).tracker = s.tracker ∧
      (performSeal c t s).sealing = s.sealing ∧
      (performSeal c t s).ring = s.ring ∧
      (performSeal c t s).attention = s.attention ∧
      (performSeal c t s).management = s.management ∧
      (performSeal c t s).drawn = s.drawn ∧
      (performSeal c t s).pending = s.pending := by
  unfold performSeal
  (repeat' split) <;> simp

/-- The owed-seal flag is the Seal Controller's. -/
@[simp] theorem clearOwed_keeps (s : State) :
    (clearOwed s).now = s.now ∧
      (clearOwed s).srstn = s.srstn ∧
      (clearOwed s).sync = s.sync ∧
      (clearOwed s).store = s.store ∧
      (clearOwed s).windows = s.windows ∧
      (clearOwed s).uport = s.uport ∧
      (clearOwed s).drain = s.drain ∧
      (clearOwed s).dport = s.dport ∧
      (clearOwed s).timer = s.timer ∧
      (clearOwed s).tracker = s.tracker ∧
      (clearOwed s).ring = s.ring ∧
      (clearOwed s).attention = s.attention ∧
      (clearOwed s).management = s.management ∧
      (clearOwed s).drawn = s.drawn ∧
      (clearOwed s).pending = s.pending := by
  simp [clearOwed]

/-- The flags of step 4 of R124 are the Seal Controller's. -/
@[simp] theorem clearSealFlags_keeps (c : SealCause) (s : State) :
    (clearSealFlags c s).now = s.now ∧
      (clearSealFlags c s).srstn = s.srstn ∧
      (clearSealFlags c s).sync = s.sync ∧
      (clearSealFlags c s).store = s.store ∧
      (clearSealFlags c s).windows = s.windows ∧
      (clearSealFlags c s).uport = s.uport ∧
      (clearSealFlags c s).drain = s.drain ∧
      (clearSealFlags c s).dport = s.dport ∧
      (clearSealFlags c s).timer = s.timer ∧
      (clearSealFlags c s).tracker = s.tracker ∧
      (clearSealFlags c s).ring = s.ring ∧
      (clearSealFlags c s).attention = s.attention ∧
      (clearSealFlags c s).management = s.management ∧
      (clearSealFlags c s).drawn = s.drawn ∧
      (clearSealFlags c s).pending = s.pending := by
  simp [clearSealFlags]

/-- The blocks a seal reaches (R124). -/
@[simp] theorem takeSeal_keeps (c : SealCause) (t : Stamp) (s : State) :
    (takeSeal c t s).now = s.now ∧
      (takeSeal c t s).srstn = s.srstn ∧
      (takeSeal c t s).sync = s.sync ∧
      (takeSeal c t s).uport = s.uport ∧
      (takeSeal c t s).dport = s.dport ∧
      (takeSeal c t s).timer = s.timer ∧
      (takeSeal c t s).tracker = s.tracker ∧
      (takeSeal c t s).ring = s.ring ∧
      (takeSeal c t s).management = s.management ∧
      (takeSeal c t s).drawn = s.drawn ∧
      (takeSeal c t s).pending = s.pending := by
  unfold takeSeal
  dsimp only
  (repeat' split) <;> simp

/-- A point taken with nothing to seal (R125, R127). -/
@[simp] theorem takeEmptyPoint_keeps (s : State) :
    (takeEmptyPoint s).now = s.now ∧
      (takeEmptyPoint s).srstn = s.srstn ∧
      (takeEmptyPoint s).sync = s.sync ∧
      (takeEmptyPoint s).store = s.store ∧
      (takeEmptyPoint s).uport = s.uport ∧
      (takeEmptyPoint s).drain = s.drain ∧
      (takeEmptyPoint s).dport = s.dport ∧
      (takeEmptyPoint s).timer = s.timer ∧
      (takeEmptyPoint s).tracker = s.tracker ∧
      (takeEmptyPoint s).ring = s.ring ∧
      (takeEmptyPoint s).management = s.management ∧
      (takeEmptyPoint s).drawn = s.drawn ∧
      (takeEmptyPoint s).pending = s.pending := by
  unfold takeEmptyPoint
  (repeat' split) <;> simp

/-- The traces of a refused seal point (R125). -/
@[simp] theorem refuseSealPoint_keeps (s : State) :
    (refuseSealPoint s).now = s.now ∧
      (refuseSealPoint s).srstn = s.srstn ∧
      (refuseSealPoint s).sync = s.sync ∧
      (refuseSealPoint s).windows = s.windows ∧
      (refuseSealPoint s).uport = s.uport ∧
      (refuseSealPoint s).drain = s.drain ∧
      (refuseSealPoint s).dport = s.dport ∧
      (refuseSealPoint s).timer = s.timer ∧
      (refuseSealPoint s).tracker = s.tracker ∧
      (refuseSealPoint s).ring = s.ring ∧
      (refuseSealPoint s).management = s.management ∧
      (refuseSealPoint s).drawn = s.drawn ∧
      (refuseSealPoint s).pending = s.pending := by
  unfold refuseSealPoint
  dsimp only
  (repeat' split) <;> simp

/-- The blocks a seal point reaches (R125). -/
@[simp] theorem offerSealPoint_keeps (c : SealCause) (t : Stamp) (s : State) :
    (offerSealPoint c t s).now = s.now ∧
      (offerSealPoint c t s).srstn = s.srstn ∧
      (offerSealPoint c t s).sync = s.sync ∧
      (offerSealPoint c t s).uport = s.uport ∧
      (offerSealPoint c t s).dport = s.dport ∧
      (offerSealPoint c t s).timer = s.timer ∧
      (offerSealPoint c t s).tracker = s.tracker ∧
      (offerSealPoint c t s).ring = s.ring ∧
      (offerSealPoint c t s).management = s.management ∧
      (offerSealPoint c t s).drawn = s.drawn ∧
      (offerSealPoint c t s).pending = s.pending := by
  unfold offerSealPoint
  (repeat' split) <;> simp

/-- The blocks an owed seal reaches (R127). -/
@[simp] theorem takeOwedSeal_keeps (s : State) :
    (takeOwedSeal s).now = s.now ∧
      (takeOwedSeal s).srstn = s.srstn ∧
      (takeOwedSeal s).sync = s.sync ∧
      (takeOwedSeal s).uport = s.uport ∧
      (takeOwedSeal s).dport = s.dport ∧
      (takeOwedSeal s).timer = s.timer ∧
      (takeOwedSeal s).tracker = s.tracker ∧
      (takeOwedSeal s).ring = s.ring ∧
      (takeOwedSeal s).management = s.management ∧
      (takeOwedSeal s).drawn = s.drawn ∧
      (takeOwedSeal s).pending = s.pending := by
  unfold takeOwedSeal
  (repeat' split) <;> simp

/-- The blocks the commit-now flag reaches when taken (R131). -/
@[simp] theorem takeCommitNow_keeps (s : State) :
    (takeCommitNow s).now = s.now ∧
      (takeCommitNow s).srstn = s.srstn ∧
      (takeCommitNow s).sync = s.sync ∧
      (takeCommitNow s).uport = s.uport ∧
      (takeCommitNow s).dport = s.dport ∧
      (takeCommitNow s).timer = s.timer ∧
      (takeCommitNow s).tracker = s.tracker ∧
      (takeCommitNow s).ring = s.ring ∧
      (takeCommitNow s).management = s.management ∧
      (takeCommitNow s).drawn = s.drawn ∧
      (takeCommitNow s).pending = s.pending := by
  unfold takeCommitNow
  (repeat' split) <;> simp

/-- Step 1 of R129. -/
@[simp] theorem returnOwed_keeps (s : State) :
    (returnOwed s).now = s.now ∧
      (returnOwed s).srstn = s.srstn ∧
      (returnOwed s).sync = s.sync ∧
      (returnOwed s).uport = s.uport ∧
      (returnOwed s).dport = s.dport ∧
      (returnOwed s).timer = s.timer ∧
      (returnOwed s).tracker = s.tracker ∧
      (returnOwed s).ring = s.ring ∧
      (returnOwed s).management = s.management ∧
      (returnOwed s).drawn = s.drawn ∧
      (returnOwed s).pending = s.pending := by
  unfold returnOwed
  (repeat' split) <;> simp

/-- Step 2 of R129. -/
@[simp] theorem returnCommitNow_keeps (s : State) :
    (returnCommitNow s).now = s.now ∧
      (returnCommitNow s).srstn = s.srstn ∧
      (returnCommitNow s).sync = s.sync ∧
      (returnCommitNow s).uport = s.uport ∧
      (returnCommitNow s).dport = s.dport ∧
      (returnCommitNow s).timer = s.timer ∧
      (returnCommitNow s).tracker = s.tracker ∧
      (returnCommitNow s).ring = s.ring ∧
      (returnCommitNow s).management = s.management ∧
      (returnCommitNow s).drawn = s.drawn ∧
      (returnCommitNow s).pending = s.pending := by
  unfold returnCommitNow
  (repeat' split) <;> simp

/-- The blocks a permission-return moment reaches (R129). -/
@[simp] theorem permissionReturn_keeps (s : State) :
    (permissionReturn s).now = s.now ∧
      (permissionReturn s).srstn = s.srstn ∧
      (permissionReturn s).sync = s.sync ∧
      (permissionReturn s).uport = s.uport ∧
      (permissionReturn s).dport = s.dport ∧
      (permissionReturn s).timer = s.timer ∧
      (permissionReturn s).tracker = s.tracker ∧
      (permissionReturn s).ring = s.ring ∧
      (permissionReturn s).management = s.management ∧
      (permissionReturn s).drawn = s.drawn ∧
      (permissionReturn s).pending = s.pending := by
  simp [permissionReturn]

/-- A discard changes the store and the ring (R15, R16). -/
@[simp] theorem discardOpen_keeps (o : RecordOutcome) (s : State) :
    (discardOpen o s).now = s.now ∧
      (discardOpen o s).srstn = s.srstn ∧
      (discardOpen o s).sync = s.sync ∧
      (discardOpen o s).windows = s.windows ∧
      (discardOpen o s).uport = s.uport ∧
      (discardOpen o s).drain = s.drain ∧
      (discardOpen o s).dport = s.dport ∧
      (discardOpen o s).timer = s.timer ∧
      (discardOpen o s).tracker = s.tracker ∧
      (discardOpen o s).sealing = s.sealing ∧
      (discardOpen o s).attention = s.attention ∧
      (discardOpen o s).management = s.management ∧
      (discardOpen o s).drawn = s.drawn ∧
      (discardOpen o s).pending = s.pending := by
  unfold discardOpen
  (repeat' split) <;> simp

/-- An answer at the taking changes the U-port only. -/
@[simp] theorem answerAtTaking_keeps (n : Nat) (c : Classification) (p : Option (List (Option Byte))) (a : Answer) (s : State) :
    (answerAtTaking n c p a s).now = s.now ∧
      (answerAtTaking n c p a s).srstn = s.srstn ∧
      (answerAtTaking n c p a s).sync = s.sync ∧
      (answerAtTaking n c p a s).store = s.store ∧
      (answerAtTaking n c p a s).windows = s.windows ∧
      (answerAtTaking n c p a s).drain = s.drain ∧
      (answerAtTaking n c p a s).dport = s.dport ∧
      (answerAtTaking n c p a s).timer = s.timer ∧
      (answerAtTaking n c p a s).tracker = s.tracker ∧
      (answerAtTaking n c p a s).sealing = s.sealing ∧
      (answerAtTaking n c p a s).ring = s.ring ∧
      (answerAtTaking n c p a s).attention = s.attention ∧
      (answerAtTaking n c p a s).management = s.management ∧
      (answerAtTaking n c p a s).drawn = s.drawn ∧
      (answerAtTaking n c p a s).pending = s.pending := by
  simp [answerAtTaking]

/-- Forwarding changes the U-port only (R48). -/
@[simp] theorem forwardAtTaking_keeps (n : Nat) (c : Classification) (p : Option (List (Option Byte))) (f : Forward) (s : State) :
    (forwardAtTaking n c p f s).now = s.now ∧
      (forwardAtTaking n c p f s).srstn = s.srstn ∧
      (forwardAtTaking n c p f s).sync = s.sync ∧
      (forwardAtTaking n c p f s).store = s.store ∧
      (forwardAtTaking n c p f s).windows = s.windows ∧
      (forwardAtTaking n c p f s).drain = s.drain ∧
      (forwardAtTaking n c p f s).dport = s.dport ∧
      (forwardAtTaking n c p f s).timer = s.timer ∧
      (forwardAtTaking n c p f s).tracker = s.tracker ∧
      (forwardAtTaking n c p f s).sealing = s.sealing ∧
      (forwardAtTaking n c p f s).ring = s.ring ∧
      (forwardAtTaking n c p f s).attention = s.attention ∧
      (forwardAtTaking n c p f s).management = s.management ∧
      (forwardAtTaking n c p f s).drawn = s.drawn ∧
      (forwardAtTaking n c p f s).pending = s.pending := by
  simp [forwardAtTaking]

/-- A refused write changes no entry, count or slot (R52). -/
@[simp] theorem refuseWrite_keeps (e : UrqEntry) (c : Classification) (s : State) :
    (refuseWrite e c s).now = s.now ∧
      (refuseWrite e c s).srstn = s.srstn ∧
      (refuseWrite e c s).sync = s.sync ∧
      (refuseWrite e c s).store = s.store ∧
      (refuseWrite e c s).windows = s.windows ∧
      (refuseWrite e c s).drain = s.drain ∧
      (refuseWrite e c s).dport = s.dport ∧
      (refuseWrite e c s).timer = s.timer ∧
      (refuseWrite e c s).tracker = s.tracker ∧
      (refuseWrite e c s).sealing = s.sealing ∧
      (refuseWrite e c s).ring = s.ring ∧
      (refuseWrite e c s).management = s.management ∧
      (refuseWrite e c s).drawn = s.drawn ∧
      (refuseWrite e c s).pending = s.pending := by
  simp [refuseWrite]

/-- A stall changes the U-port only (R51). -/
@[simp] theorem stallHead_keeps (s : State) :
    (stallHead s).now = s.now ∧
      (stallHead s).srstn = s.srstn ∧
      (stallHead s).sync = s.sync ∧
      (stallHead s).store = s.store ∧
      (stallHead s).windows = s.windows ∧
      (stallHead s).drain = s.drain ∧
      (stallHead s).dport = s.dport ∧
      (stallHead s).timer = s.timer ∧
      (stallHead s).tracker = s.tracker ∧
      (stallHead s).sealing = s.sealing ∧
      (stallHead s).ring = s.ring ∧
      (stallHead s).attention = s.attention ∧
      (stallHead s).management = s.management ∧
      (stallHead s).drawn = s.drawn ∧
      (stallHead s).pending = s.pending := by
  unfold stallHead
  (repeat' split) <;> simp

/-- A write under SPILL (R55). -/
@[simp] theorem spillHead_keeps (e : UrqEntry) (c : Classification) (s : State) :
    (spillHead e c s).now = s.now ∧
      (spillHead e c s).srstn = s.srstn ∧
      (spillHead e c s).sync = s.sync ∧
      (spillHead e c s).windows = s.windows ∧
      (spillHead e c s).drain = s.drain ∧
      (spillHead e c s).dport = s.dport ∧
      (spillHead e c s).timer = s.timer ∧
      (spillHead e c s).tracker = s.tracker ∧
      (spillHead e c s).sealing = s.sealing ∧
      (spillHead e c s).ring = s.ring ∧
      (spillHead e c s).attention = s.attention ∧
      (spillHead e c s).management = s.management ∧
      (spillHead e c s).drawn = s.drawn ∧
      (spillHead e c s).pending = s.pending := by
  unfold spillHead
  dsimp only
  (repeat' split) <;> simp

/-- A write that does not fit (R51). -/
@[simp] theorem notStageable_keeps (e : UrqEntry) (c : Classification) (p : Policy) (s : State) :
    (notStageable e c p s).now = s.now ∧
      (notStageable e c p s).srstn = s.srstn ∧
      (notStageable e c p s).sync = s.sync ∧
      (notStageable e c p s).windows = s.windows ∧
      (notStageable e c p s).drain = s.drain ∧
      (notStageable e c p s).dport = s.dport ∧
      (notStageable e c p s).timer = s.timer ∧
      (notStageable e c p s).tracker = s.tracker ∧
      (notStageable e c p s).sealing = s.sealing ∧
      (notStageable e c p s).ring = s.ring ∧
      (notStageable e c p s).management = s.management ∧
      (notStageable e c p s).drawn = s.drawn ∧
      (notStageable e c p s).pending = s.pending := by
  unfold notStageable
  (repeat' split) <;> simp

/-- A staged write (R51, R52). -/
@[simp] theorem takeStagedWrite_keeps (e : UrqEntry) (w : Window) (p : Policy) (v : View) (r : RunState) (s : State) :
    (takeStagedWrite e w p v r s).now = s.now ∧
      (takeStagedWrite e w p v r s).srstn = s.srstn ∧
      (takeStagedWrite e w p v r s).sync = s.sync ∧
      (takeStagedWrite e w p v r s).windows = s.windows ∧
      (takeStagedWrite e w p v r s).drain = s.drain ∧
      (takeStagedWrite e w p v r s).dport = s.dport ∧
      (takeStagedWrite e w p v r s).timer = s.timer ∧
      (takeStagedWrite e w p v r s).tracker = s.tracker ∧
      (takeStagedWrite e w p v r s).sealing = s.sealing ∧
      (takeStagedWrite e w p v r s).ring = s.ring ∧
      (takeStagedWrite e w p v r s).management = s.management ∧
      (takeStagedWrite e w p v r s).drawn = s.drawn ∧
      (takeStagedWrite e w p v r s).pending = s.pending := by
  unfold takeStagedWrite
  dsimp only
  (repeat' split) <;> simp

/-- A staged read changes the U-port only (R58). -/
@[simp] theorem takeStagedRead_keeps (e : UrqEntry) (w : Window) (p : Policy) (v : View) (r : RunState) (s : State) :
    (takeStagedRead e w p v r s).now = s.now ∧
      (takeStagedRead e w p v r s).srstn = s.srstn ∧
      (takeStagedRead e w p v r s).sync = s.sync ∧
      (takeStagedRead e w p v r s).store = s.store ∧
      (takeStagedRead e w p v r s).windows = s.windows ∧
      (takeStagedRead e w p v r s).drain = s.drain ∧
      (takeStagedRead e w p v r s).dport = s.dport ∧
      (takeStagedRead e w p v r s).timer = s.timer ∧
      (takeStagedRead e w p v r s).tracker = s.tracker ∧
      (takeStagedRead e w p v r s).sealing = s.sealing ∧
      (takeStagedRead e w p v r s).ring = s.ring ∧
      (takeStagedRead e w p v r s).attention = s.attention ∧
      (takeStagedRead e w p v r s).management = s.management ∧
      (takeStagedRead e w p v r s).drawn = s.drawn ∧
      (takeStagedRead e w p v r s).pending = s.pending := by
  unfold takeStagedRead
  dsimp only
  (repeat' split) <;> simp

/-- A pass-through request changes the U-port only (R48). -/
@[simp] theorem takePassThrough_keeps (e : UrqEntry) (s : State) :
    (takePassThrough e s).now = s.now ∧
      (takePassThrough e s).srstn = s.srstn ∧
      (takePassThrough e s).sync = s.sync ∧
      (takePassThrough e s).store = s.store ∧
      (takePassThrough e s).windows = s.windows ∧
      (takePassThrough e s).drain = s.drain ∧
      (takePassThrough e s).dport = s.dport ∧
      (takePassThrough e s).timer = s.timer ∧
      (takePassThrough e s).tracker = s.tracker ∧
      (takePassThrough e s).sealing = s.sealing ∧
      (takePassThrough e s).ring = s.ring ∧
      (takePassThrough e s).attention = s.attention ∧
      (takePassThrough e s).management = s.management ∧
      (takePassThrough e s).drawn = s.drawn ∧
      (takePassThrough e s).pending = s.pending := by
  unfold takePassThrough
  (repeat' split) <;> simp

/-- The blocks a taking attempt reaches (R46). -/
@[simp] theorem attemptTaking_keeps (e : UrqEntry) (s : State) :
    (attemptTaking e s).now = s.now ∧
      (attemptTaking e s).srstn = s.srstn ∧
      (attemptTaking e s).sync = s.sync ∧
      (attemptTaking e s).windows = s.windows ∧
      (attemptTaking e s).drain = s.drain ∧
      (attemptTaking e s).dport = s.dport ∧
      (attemptTaking e s).timer = s.timer ∧
      (attemptTaking e s).tracker = s.tracker ∧
      (attemptTaking e s).sealing = s.sealing ∧
      (attemptTaking e s).ring = s.ring ∧
      (attemptTaking e s).management = s.management ∧
      (attemptTaking e s).drawn = s.drawn ∧
      (attemptTaking e s).pending = s.pending := by
  unfold attemptTaking
  (repeat' split) <;> simp

/-- The blocks a slot-free report reaches (R14, R53). -/
@[simp] theorem reportFreedSlots_keeps (s : State) :
    (reportFreedSlots s).now = s.now ∧
      (reportFreedSlots s).srstn = s.srstn ∧
      (reportFreedSlots s).sync = s.sync ∧
      (reportFreedSlots s).windows = s.windows ∧
      (reportFreedSlots s).drain = s.drain ∧
      (reportFreedSlots s).dport = s.dport ∧
      (reportFreedSlots s).timer = s.timer ∧
      (reportFreedSlots s).tracker = s.tracker ∧
      (reportFreedSlots s).sealing = s.sealing ∧
      (reportFreedSlots s).ring = s.ring ∧
      (reportFreedSlots s).management = s.management ∧
      (reportFreedSlots s).drawn = s.drawn ∧
      (reportFreedSlots s).pending = s.pending := by
  unfold reportFreedSlots
  (repeat' split) <;> simp

/-- The blocks the reopening reaches (R61). -/
@[simp] theorem reopenPort_keeps (s : State) :
    (reopenPort s).now = s.now ∧
      (reopenPort s).srstn = s.srstn ∧
      (reopenPort s).sync = s.sync ∧
      (reopenPort s).store = s.store ∧
      (reopenPort s).windows = s.windows ∧
      (reopenPort s).drain = s.drain ∧
      (reopenPort s).dport = s.dport ∧
      (reopenPort s).timer = s.timer ∧
      (reopenPort s).tracker = s.tracker ∧
      (reopenPort s).sealing = s.sealing ∧
      (reopenPort s).ring = s.ring ∧
      (reopenPort s).management = s.management ∧
      (reopenPort s).drawn = s.drawn ∧
      (reopenPort s).pending = s.pending := by
  unfold reopenPort
  (repeat' split) <;> simp

/-- The retirement proper (R70). -/
@[simp] theorem endGeneration_keeps (g : SealedGen) (s : State) :
    (endGeneration g s).now = s.now ∧
      (endGeneration g s).srstn = s.srstn ∧
      (endGeneration g s).sync = s.sync ∧
      (endGeneration g s).windows = s.windows ∧
      (endGeneration g s).uport = s.uport ∧
      (endGeneration g s).dport = s.dport ∧
      (endGeneration g s).timer = s.timer ∧
      (endGeneration g s).tracker = s.tracker ∧
      (endGeneration g s).sealing = s.sealing ∧
      (endGeneration g s).management = s.management ∧
      (endGeneration g s).drawn = s.drawn ∧
      (endGeneration g s).pending = s.pending := by
  simp [endGeneration]

/-- The blocks a retirement reaches (R70). -/
@[simp] theorem retire_keeps (g : SealedGen) (s : State) :
    (retire g s).now = s.now ∧
      (retire g s).srstn = s.srstn ∧
      (retire g s).sync = s.sync ∧
      (retire g s).dport = s.dport ∧
      (retire g s).timer = s.timer ∧
      (retire g s).tracker = s.tracker ∧
      (retire g s).management = s.management ∧
      (retire g s).drawn = s.drawn ∧
      (retire g s).pending = s.pending := by
  simp [retire]

/-- The blocks a retirement reaches (R70). -/
@[simp] theorem retireIfDrained_keeps (s : State) :
    (retireIfDrained s).now = s.now ∧
      (retireIfDrained s).srstn = s.srstn ∧
      (retireIfDrained s).sync = s.sync ∧
      (retireIfDrained s).dport = s.dport ∧
      (retireIfDrained s).timer = s.timer ∧
      (retireIfDrained s).tracker = s.tracker ∧
      (retireIfDrained s).management = s.management ∧
      (retireIfDrained s).drawn = s.drawn ∧
      (retireIfDrained s).pending = s.pending := by
  unfold retireIfDrained
  (repeat' split) <;> simp

/-- The blocks a Done event reaches (R66). -/
@[simp] theorem drainDone_keeps (p : Nat) (s : State) :
    (drainDone p s).now = s.now ∧
      (drainDone p s).srstn = s.srstn ∧
      (drainDone p s).sync = s.sync ∧
      (drainDone p s).dport = s.dport ∧
      (drainDone p s).timer = s.timer ∧
      (drainDone p s).tracker = s.tracker ∧
      (drainDone p s).management = s.management ∧
      (drainDone p s).drawn = s.drawn ∧
      (drainDone p s).pending = s.pending := by
  unfold drainDone
  (repeat' split) <;> simp

/-- A run state is the Window Table's (R39). -/
@[simp] theorem faultWindow_keeps (w : Window) (s : State) :
    (faultWindow w s).now = s.now ∧
      (faultWindow w s).srstn = s.srstn ∧
      (faultWindow w s).sync = s.sync ∧
      (faultWindow w s).store = s.store ∧
      (faultWindow w s).uport = s.uport ∧
      (faultWindow w s).drain = s.drain ∧
      (faultWindow w s).dport = s.dport ∧
      (faultWindow w s).timer = s.timer ∧
      (faultWindow w s).tracker = s.tracker ∧
      (faultWindow w s).sealing = s.sealing ∧
      (faultWindow w s).ring = s.ring ∧
      (faultWindow w s).attention = s.attention ∧
      (faultWindow w s).management = s.management ∧
      (faultWindow w s).drawn = s.drawn ∧
      (faultWindow w s).pending = s.pending := by
  simp [faultWindow]

/-- The blocks a Dropped event reaches (R67). -/
@[simp] theorem drainDropped_keeps (g : SealedGen) (e : SealedEntry) (s : State) :
    (drainDropped g e s).now = s.now ∧
      (drainDropped g e s).srstn = s.srstn ∧
      (drainDropped g e s).sync = s.sync ∧
      (drainDropped g e s).dport = s.dport ∧
      (drainDropped g e s).timer = s.timer ∧
      (drainDropped g e s).tracker = s.tracker ∧
      (drainDropped g e s).management = s.management ∧
      (drainDropped g e s).drawn = s.drawn ∧
      (drainDropped g e s).pending = s.pending := by
  simp [drainDropped]

/-- The blocks a failed drain write reaches (R67). -/
@[simp] theorem drainFailed_keeps (p : Nat) (s : State) :
    (drainFailed p s).now = s.now ∧
      (drainFailed p s).srstn = s.srstn ∧
      (drainFailed p s).sync = s.sync ∧
      (drainFailed p s).dport = s.dport ∧
      (drainFailed p s).timer = s.timer ∧
      (drainFailed p s).tracker = s.tracker ∧
      (drainFailed p s).management = s.management ∧
      (drainFailed p s).drawn = s.drawn ∧
      (drainFailed p s).pending = s.pending := by
  unfold drainFailed
  (repeat' split) <;> simp

/-- The end of an upstream request (R50, R57, R58). -/
@[simp] theorem answerUpstream_keeps (n : Nat) (a : Answer) (s : State) :
    (answerUpstream n a s).now = s.now ∧
      (answerUpstream n a s).srstn = s.srstn ∧
      (answerUpstream n a s).sync = s.sync ∧
      (answerUpstream n a s).store = s.store ∧
      (answerUpstream n a s).windows = s.windows ∧
      (answerUpstream n a s).drain = s.drain ∧
      (answerUpstream n a s).dport = s.dport ∧
      (answerUpstream n a s).timer = s.timer ∧
      (answerUpstream n a s).tracker = s.tracker ∧
      (answerUpstream n a s).sealing = s.sealing ∧
      (answerUpstream n a s).ring = s.ring ∧
      (answerUpstream n a s).attention = s.attention ∧
      (answerUpstream n a s).management = s.management ∧
      (answerUpstream n a s).drawn = s.drawn ∧
      (answerUpstream n a s).pending = s.pending := by
  simp [answerUpstream]

/-- The blocks a downstream outcome reaches (R74). -/
@[simp] theorem deliver_keeps (o : Origin) (a : Answer) (s : State) :
    (deliver o a s).now = s.now ∧
      (deliver o a s).srstn = s.srstn ∧
      (deliver o a s).sync = s.sync ∧
      (deliver o a s).dport = s.dport ∧
      (deliver o a s).timer = s.timer ∧
      (deliver o a s).tracker = s.tracker ∧
      (deliver o a s).management = s.management ∧
      (deliver o a s).drawn = s.drawn ∧
      (deliver o a s).pending = s.pending := by
  unfold deliver
  (repeat' split) <;> simp

/-- A member leaves the in-flight list. -/
@[simp] theorem removeMember_keeps (t : Tag) (s : State) :
    (removeMember t s).now = s.now ∧
      (removeMember t s).srstn = s.srstn ∧
      (removeMember t s).sync = s.sync ∧
      (removeMember t s).store = s.store ∧
      (removeMember t s).windows = s.windows ∧
      (removeMember t s).uport = s.uport ∧
      (removeMember t s).drain = s.drain ∧
      (removeMember t s).timer = s.timer ∧
      (removeMember t s).tracker = s.tracker ∧
      (removeMember t s).sealing = s.sealing ∧
      (removeMember t s).ring = s.ring ∧
      (removeMember t s).attention = s.attention ∧
      (removeMember t s).management = s.management ∧
      (removeMember t s).drawn = s.drawn ∧
      (removeMember t s).pending = s.pending := by
  simp [removeMember]

/-- A tag leaves the stale tag set. -/
@[simp] theorem removeStale_keeps (t : Tag) (s : State) :
    (removeStale t s).now = s.now ∧
      (removeStale t s).srstn = s.srstn ∧
      (removeStale t s).sync = s.sync ∧
      (removeStale t s).store = s.store ∧
      (removeStale t s).windows = s.windows ∧
      (removeStale t s).uport = s.uport ∧
      (removeStale t s).drain = s.drain ∧
      (removeStale t s).timer = s.timer ∧
      (removeStale t s).tracker = s.tracker ∧
      (removeStale t s).sealing = s.sealing ∧
      (removeStale t s).ring = s.ring ∧
      (removeStale t s).attention = s.attention ∧
      (removeStale t s).management = s.management ∧
      (removeStale t s).drawn = s.drawn ∧
      (removeStale t s).pending = s.pending := by
  simp [removeStale]

/-- A tag enters the stale tag set. -/
@[simp] theorem addStale_keeps (t : Tag) (s : State) :
    (addStale t s).now = s.now ∧
      (addStale t s).srstn = s.srstn ∧
      (addStale t s).sync = s.sync ∧
      (addStale t s).store = s.store ∧
      (addStale t s).windows = s.windows ∧
      (addStale t s).uport = s.uport ∧
      (addStale t s).drain = s.drain ∧
      (addStale t s).timer = s.timer ∧
      (addStale t s).tracker = s.tracker ∧
      (addStale t s).sealing = s.sealing ∧
      (addStale t s).ring = s.ring ∧
      (addStale t s).attention = s.attention ∧
      (addStale t s).management = s.management ∧
      (addStale t s).drawn = s.drawn ∧
      (addStale t s).pending = s.pending := by
  simp [addStale]

/-- The blocks reached by the taking of a held head (R56). -/
@[simp] theorem takeHeldHead_keeps (s : State) :
    (takeHeldHead s).now = s.now ∧
      (takeHeldHead s).srstn = s.srstn ∧
      (takeHeldHead s).sync = s.sync ∧
      (takeHeldHead s).windows = s.windows ∧
      (takeHeldHead s).drain = s.drain ∧
      (takeHeldHead s).dport = s.dport ∧
      (takeHeldHead s).timer = s.timer ∧
      (takeHeldHead s).tracker = s.tracker ∧
      (takeHeldHead s).sealing = s.sealing ∧
      (takeHeldHead s).ring = s.ring ∧
      (takeHeldHead s).management = s.management ∧
      (takeHeldHead s).drawn = s.drawn ∧
      (takeHeldHead s).pending = s.pending := by
  unfold takeHeldHead
  (repeat' split) <;> simp

/-- The issue of a forwarded request (R73). -/
@[simp] theorem issueForward_keeps (t : Tag) (f : Forward) (s : State) :
    (issueForward t f s).now = s.now ∧
      (issueForward t f s).srstn = s.srstn ∧
      (issueForward t f s).sync = s.sync ∧
      (issueForward t f s).store = s.store ∧
      (issueForward t f s).windows = s.windows ∧
      (issueForward t f s).drain = s.drain ∧
      (issueForward t f s).timer = s.timer ∧
      (issueForward t f s).tracker = s.tracker ∧
      (issueForward t f s).sealing = s.sealing ∧
      (issueForward t f s).ring = s.ring ∧
      (issueForward t f s).attention = s.attention ∧
      (issueForward t f s).management = s.management ∧
      (issueForward t f s).drawn = s.drawn ∧
      (issueForward t f s).pending = s.pending := by
  simp [issueForward]

/-- A pass-through grant (R56, R73). -/
@[simp] theorem grantPass_keeps (t : Tag) (f : Forward) (s : State) :
    (grantPass t f s).now = s.now ∧
      (grantPass t f s).srstn = s.srstn ∧
      (grantPass t f s).sync = s.sync ∧
      (grantPass t f s).windows = s.windows ∧
      (grantPass t f s).drain = s.drain ∧
      (grantPass t f s).timer = s.timer ∧
      (grantPass t f s).tracker = s.tracker ∧
      (grantPass t f s).sealing = s.sealing ∧
      (grantPass t f s).ring = s.ring ∧
      (grantPass t f s).management = s.management ∧
      (grantPass t f s).drawn = s.drawn ∧
      (grantPass t f s).pending = s.pending := by
  unfold grantPass
  split <;> simp

/-- A drain grant (R65, R73). -/
@[simp] theorem grantDrain_keeps (t : Tag) (e : SealedEntry) (s : State) :
    (grantDrain t e s).now = s.now ∧
      (grantDrain t e s).srstn = s.srstn ∧
      (grantDrain t e s).sync = s.sync ∧
      (grantDrain t e s).windows = s.windows ∧
      (grantDrain t e s).uport = s.uport ∧
      (grantDrain t e s).timer = s.timer ∧
      (grantDrain t e s).tracker = s.tracker ∧
      (grantDrain t e s).sealing = s.sealing ∧
      (grantDrain t e s).ring = s.ring ∧
      (grantDrain t e s).attention = s.attention ∧
      (grantDrain t e s).management = s.management ∧
      (grantDrain t e s).drawn = s.drawn ∧
      (grantDrain t e s).pending = s.pending := by
  simp [grantDrain]

/-- The blocks a grant reaches (R78). -/
@[simp] theorem arbitrate_keeps (s : State) :
    (arbitrate s).now = s.now ∧
      (arbitrate s).srstn = s.srstn ∧
      (arbitrate s).sync = s.sync ∧
      (arbitrate s).windows = s.windows ∧
      (arbitrate s).timer = s.timer ∧
      (arbitrate s).tracker = s.tracker ∧
      (arbitrate s).sealing = s.sealing ∧
      (arbitrate s).ring = s.ring ∧
      (arbitrate s).management = s.management ∧
      (arbitrate s).drawn = s.drawn ∧
      (arbitrate s).pending = s.pending := by
  unfold arbitrate
  (repeat' split) <;> simp

/-- Step 1 of R87. -/
@[simp] theorem lateSealPoint_keeps (s : State) :
    (lateSealPoint s).now = s.now ∧
      (lateSealPoint s).srstn = s.srstn ∧
      (lateSealPoint s).sync = s.sync ∧
      (lateSealPoint s).uport = s.uport ∧
      (lateSealPoint s).dport = s.dport ∧
      (lateSealPoint s).timer = s.timer ∧
      (lateSealPoint s).tracker = s.tracker ∧
      (lateSealPoint s).ring = s.ring ∧
      (lateSealPoint s).management = s.management ∧
      (lateSealPoint s).drawn = s.drawn ∧
      (lateSealPoint s).pending = s.pending := by
  unfold lateSealPoint
  (repeat' split) <;> simp

/-- Step 2 of R87. -/
@[simp] theorem newFrame_keeps (s : State) :
    (newFrame s).now = s.now ∧
      (newFrame s).srstn = s.srstn ∧
      (newFrame s).sync = s.sync ∧
      (newFrame s).store = s.store ∧
      (newFrame s).windows = s.windows ∧
      (newFrame s).uport = s.uport ∧
      (newFrame s).drain = s.drain ∧
      (newFrame s).dport = s.dport ∧
      (newFrame s).tracker = s.tracker ∧
      (newFrame s).sealing = s.sealing ∧
      (newFrame s).ring = s.ring ∧
      (newFrame s).attention = s.attention ∧
      (newFrame s).management = s.management ∧
      (newFrame s).drawn = s.drawn ∧
      (newFrame s).pending = s.pending := by
  simp [newFrame]

/-- Step 3 of R87. -/
@[simp] theorem transferCheck_keeps (s : State) :
    (transferCheck s).now = s.now ∧
      (transferCheck s).srstn = s.srstn ∧
      (transferCheck s).sync = s.sync ∧
      (transferCheck s).store = s.store ∧
      (transferCheck s).windows = s.windows ∧
      (transferCheck s).uport = s.uport ∧
      (transferCheck s).drain = s.drain ∧
      (transferCheck s).dport = s.dport ∧
      (transferCheck s).tracker = s.tracker ∧
      (transferCheck s).sealing = s.sealing ∧
      (transferCheck s).ring = s.ring ∧
      (transferCheck s).management = s.management ∧
      (transferCheck s).drawn = s.drawn ∧
      (transferCheck s).pending = s.pending := by
  unfold transferCheck
  (repeat' split) <;> simp

/-- The end of a hold by expiry (R133). -/
@[simp] theorem expireHold_keeps (s : State) :
    (expireHold s).now = s.now ∧
      (expireHold s).srstn = s.srstn ∧
      (expireHold s).sync = s.sync ∧
      (expireHold s).uport = s.uport ∧
      (expireHold s).dport = s.dport ∧
      (expireHold s).timer = s.timer ∧
      (expireHold s).tracker = s.tracker ∧
      (expireHold s).ring = s.ring ∧
      (expireHold s).management = s.management ∧
      (expireHold s).drawn = s.drawn ∧
      (expireHold s).pending = s.pending := by
  simp [expireHold]

/-- Step 4 of R87. -/
@[simp] theorem reportBoundary_keeps (s : State) :
    (reportBoundary s).now = s.now ∧
      (reportBoundary s).srstn = s.srstn ∧
      (reportBoundary s).sync = s.sync ∧
      (reportBoundary s).uport = s.uport ∧
      (reportBoundary s).dport = s.dport ∧
      (reportBoundary s).timer = s.timer ∧
      (reportBoundary s).tracker = s.tracker ∧
      (reportBoundary s).ring = s.ring ∧
      (reportBoundary s).management = s.management ∧
      (reportBoundary s).drawn = s.drawn ∧
      (reportBoundary s).pending = s.pending := by
  unfold reportBoundary
  dsimp only
  (repeat' split) <;> simp

/-- Step 5 of R87. -/
@[simp] theorem earlySealPoint_keeps (s : State) :
    (earlySealPoint s).now = s.now ∧
      (earlySealPoint s).srstn = s.srstn ∧
      (earlySealPoint s).sync = s.sync ∧
      (earlySealPoint s).uport = s.uport ∧
      (earlySealPoint s).dport = s.dport ∧
      (earlySealPoint s).tracker = s.tracker ∧
      (earlySealPoint s).ring = s.ring ∧
      (earlySealPoint s).management = s.management ∧
      (earlySealPoint s).drawn = s.drawn ∧
      (earlySealPoint s).pending = s.pending := by
  unfold earlySealPoint
  (repeat' split) <;> simp

/-- The blocks a frame boundary reaches (R87). -/
@[simp] theorem takeBoundary_keeps (s : State) :
    (takeBoundary s).now = s.now ∧
      (takeBoundary s).srstn = s.srstn ∧
      (takeBoundary s).sync = s.sync ∧
      (takeBoundary s).uport = s.uport ∧
      (takeBoundary s).dport = s.dport ∧
      (takeBoundary s).tracker = s.tracker ∧
      (takeBoundary s).ring = s.ring ∧
      (takeBoundary s).management = s.management ∧
      (takeBoundary s).drawn = s.drawn ∧
      (takeBoundary s).pending = s.pending := by
  simp [takeBoundary]

/-- The blocks a realignment reaches (R90). -/
@[simp] theorem realign_keeps (s : State) :
    (realign s).now = s.now ∧
      (realign s).srstn = s.srstn ∧
      (realign s).sync = s.sync ∧
      (realign s).uport = s.uport ∧
      (realign s).dport = s.dport ∧
      (realign s).tracker = s.tracker ∧
      (realign s).ring = s.ring ∧
      (realign s).management = s.management ∧
      (realign s).drawn = s.drawn ∧
      (realign s).pending = s.pending := by
  simp only [realign]
  split <;> simp

/-- Steps 3 to 5 of R108. -/
@[simp] theorem changeTracker_keeps (t : Tracker) (cs : List Cause) (s : State) :
    (changeTracker t cs s).now = s.now ∧
      (changeTracker t cs s).srstn = s.srstn ∧
      (changeTracker t cs s).sync = s.sync ∧
      (changeTracker t cs s).uport = s.uport ∧
      (changeTracker t cs s).dport = s.dport ∧
      (changeTracker t cs s).timer = s.timer ∧
      (changeTracker t cs s).ring = s.ring ∧
      (changeTracker t cs s).management = s.management ∧
      (changeTracker t cs s).drawn = s.drawn ∧
      (changeTracker t cs s).pending = s.pending := by
  unfold changeTracker
  dsimp only
  (repeat' split) <;> simp

/-- Step 1 of R108. -/
@[simp] theorem measureInterval_keeps (i : Nat) (c : IntervalClass) (s : State) :
    (measureInterval i c s).now = s.now ∧
      (measureInterval i c s).srstn = s.srstn ∧
      (measureInterval i c s).sync = s.sync ∧
      (measureInterval i c s).store = s.store ∧
      (measureInterval i c s).windows = s.windows ∧
      (measureInterval i c s).uport = s.uport ∧
      (measureInterval i c s).drain = s.drain ∧
      (measureInterval i c s).dport = s.dport ∧
      (measureInterval i c s).timer = s.timer ∧
      (measureInterval i c s).sealing = s.sealing ∧
      (measureInterval i c s).ring = s.ring ∧
      (measureInterval i c s).attention = s.attention ∧
      (measureInterval i c s).management = s.management ∧
      (measureInterval i c s).drawn = s.drawn ∧
      (measureInterval i c s).pending = s.pending := by
  simp [measureInterval]

/-- The end of a command's execution (R172). -/
@[simp] theorem finishCommand_keeps (r : Option (List Byte)) (s : State) :
    (finishCommand r s).now = s.now ∧
      (finishCommand r s).srstn = s.srstn ∧
      (finishCommand r s).sync = s.sync ∧
      (finishCommand r s).store = s.store ∧
      (finishCommand r s).windows = s.windows ∧
      (finishCommand r s).uport = s.uport ∧
      (finishCommand r s).drain = s.drain ∧
      (finishCommand r s).dport = s.dport ∧
      (finishCommand r s).timer = s.timer ∧
      (finishCommand r s).tracker = s.tracker ∧
      (finishCommand r s).sealing = s.sealing ∧
      (finishCommand r s).ring = s.ring ∧
      (finishCommand r s).attention = s.attention ∧
      (finishCommand r s).drawn = s.drawn ∧
      (finishCommand r s).pending = s.pending := by
  simp [finishCommand]

end Sys2Proof.Machine
end

