-- ==== Sys2Proof/Laws/PerInstr.lean ====
section
/-! SUPPORT. The family Framed: the bytes of a management command's frame fit the command buffer, "0 to 7 bytes" (R168), and
there is at least the code. A command that is no management command has no frame. -/

namespace Sys2Proof.Laws.Framed

/-- The code and parameter bytes of the command, where it has a frame, are 1 to 7 bytes (R168). -/
def Statement (i : Instr) : Prop :=
  ∀ bs, commandBytes i = some bs → 1 ≤ bs.length ∧ bs.length ≤ 7

/-- A command without a frame. -/
theorem without_frame {i : Instr} (h : commandBytes i = none) : Statement i := by
  intro bs hb
  rw [h] at hb
  cases hb

/-- A command whose frame has a known number of bytes. -/
theorem with_frame {i : Instr} {frame : List Byte} (h : commandBytes i = some frame)
    (least : 1 ≤ frame.length) (most : frame.length ≤ 7) : Statement i := by
  intro bs hb
  rw [h] at hb
  cases hb
  exact ⟨least, most⟩

theorem requestArrival (r : Request) : Statement (.requestArrival r) := without_frame rfl
theorem taking : Statement .taking := without_frame rfl
theorem responseDeparture : Statement .responseDeparture := without_frame rfl
theorem stallTimerExpiry : Statement .stallTimerExpiry := without_frame rfl
theorem grant : Statement .grant := without_frame rfl
theorem downstreamResponse (tag : Tag) (answer : Answer) : Statement (.downstreamResponse tag answer) :=
  without_frame rfl
theorem downstreamTimeoutExpiry (tag : Tag) : Statement (.downstreamTimeoutExpiry tag) := without_frame rfl
theorem staleTagRelease (tag : Tag) : Statement (.staleTagRelease tag) := without_frame rfl
theorem deadlineDue : Statement .deadlineDue := without_frame rfl
theorem sealPoint : Statement .sealPoint := without_frame rfl
theorem frameBoundary : Statement .frameBoundary := without_frame rfl
theorem syncEdge : Statement .syncEdge := without_frame rfl
theorem missingSyncPoint : Statement .missingSyncPoint := without_frame rfl
theorem srstnAssertion : Statement .srstnAssertion := without_frame rfl
theorem srstnDeassertion : Statement .srstnDeassertion := without_frame rfl
theorem powerOnReset (srstn mcsn : Level) : Statement (.powerOnReset srstn mcsn) := without_frame rfl
theorem frameStart : Statement .frameStart := without_frame rfl
theorem frameEnd (leftover : List Bool) : Statement (.frameEnd leftover) := without_frame rfl
theorem nakCode (code : Byte) : Statement (.nakCode code) := without_frame rfl
theorem nop : Statement .nop := with_frame rfl (by simp) (by simp)
theorem readItem (item : Half) (count : Byte) : Statement (.readItem item count) :=
  with_frame rfl (by simp [bytes16]) (by simp [bytes16])
theorem writeItem (item : Half) (value : Word) : Statement (.writeItem item value) :=
  with_frame rfl (by simp [writeItemBytes, bytes16, bytes32])
    (by simp [writeItemBytes, bytes16, bytes32])
theorem shadowWindowWrite (w : Window) (field : WindowField) (value : Word) : Statement (.shadowWindowWrite w field value) :=
  with_frame rfl (by simp [writeItemBytes, bytes16, bytes32])
    (by simp [writeItemBytes, bytes16, bytes32])
theorem shadowTimingWrite (q : TimingField) (value : Word) : Statement (.shadowTimingWrite q value) :=
  with_frame rfl (by simp [writeItemBytes, bytes16, bytes32])
    (by simp [writeItemBytes, bytes16, bytes32])
theorem trackerParameterWrite (p : TrackerParam) (value : Word) : Statement (.trackerParameterWrite p value) :=
  with_frame rfl (by simp [writeItemBytes, bytes16, bytes32])
    (by simp [writeItemBytes, bytes16, bytes32])
theorem trackEnEnable : Statement .trackEnEnable :=
  with_frame rfl (by simp [writeItemBytes, bytes16, bytes32])
    (by simp [writeItemBytes, bytes16, bytes32])
theorem trackEnDisable : Statement .trackEnDisable :=
  with_frame rfl (by simp [writeItemBytes, bytes16, bytes32])
    (by simp [writeItemBytes, bytes16, bytes32])
theorem gateWrite (value : Word) : Statement (.gateWrite value) :=
  with_frame rfl (by simp [writeItemBytes, bytes16, bytes32])
    (by simp [writeItemBytes, bytes16, bytes32])
theorem enableSetWrite (value : Word) : Statement (.enableSetWrite value) :=
  with_frame rfl (by simp [writeItemBytes, bytes16, bytes32])
    (by simp [writeItemBytes, bytes16, bytes32])
theorem readRecord : Statement .readRecord := with_frame rfl (by simp) (by simp)
theorem ackAttn (mask : Word) : Statement (.ackAttn mask) := with_frame rfl (by simp [bytes32]) (by simp [bytes32])
theorem hold : Statement .hold := with_frame rfl (by simp) (by simp)
theorem release : Statement .release := with_frame rfl (by simp) (by simp)
theorem commitNow : Statement .commitNow := with_frame rfl (by simp) (by simp)
theorem abortOpen : Statement .abortOpen := with_frame rfl (by simp) (by simp)
theorem applyTable : Statement .applyTable := with_frame rfl (by simp) (by simp)
theorem cancelApply : Statement .cancelApply := with_frame rfl (by simp) (by simp)
theorem clearFault (index : Byte) : Statement (.clearFault index) := with_frame rfl (by simp) (by simp)
theorem queryWord (addr : Word) : Statement (.queryWord addr) :=
  with_frame rfl (by simp [bytes32]) (by simp [bytes32])
theorem commandParameterByte (b : Byte) : Statement (.commandParameterByte b) := without_frame rfl
theorem commandCrcMismatch (crc : Byte) : Statement (.commandCrcMismatch crc) := without_frame rfl

end Sys2Proof.Laws.Framed
end

