-- ==== Sys2Proof/Laws/Requests.lean ====
section
/-! SUPPORT. What is recorded of a request and of READ data that is not of the form of 00_scope.md 4.2, and the small
operations of an attempt, an issue and a boundary: one lemma for each says everything it can do. -/

namespace Sys2Proof.Machine

/-! ### Requests (assumption log 6) -/

/-- One byte is a legal length at every address. -/
theorem oneByte_fits (addr : Word) : (Length.sub 1).fits addr = true := by
  simp only [Length.fits, Length.wf, Length.alignment, Length.bytes]
  simp
  omega

/-- A free length fits the address. -/
theorem freeLength_fits (draw : Nat) (addr : Word) : (freeLength draw addr).fits addr = true := by
  unfold freeLength
  rw [List.getD_eq_getElem?_getD]
  cases h : (legalLengths addr)[Config.freeChoice draw % (legalLengths addr).length]? with
  | none => exact oneByte_fits addr
  | some len => exact (List.mem_filter.mp (List.mem_of_getElem? h)).2

/-- Free data is of the length that it is drawn for. -/
theorem freeWords_wf (draw : Nat) (addr : Word) (len : Length) :
    payloadWf addr len (.write (freeWords draw addr len)) = true := by
  cases len with
  | words n => simp [payloadWf, freeWords, lanesWf, Length.wordCount]
  | sub n =>
    simp only [payloadWf, freeWords, Length.wordCount, List.range_one, List.map_cons, List.map_nil, List.length_cons,
      List.length_nil, List.all_cons, List.all_nil, Bool.and_true]
    simp only [lanesWf, List.length_map, List.length_range, beq_self_eq_true, Bool.and_true, Bool.true_and,
      subMaskWf, List.all_eq_true]
    intro p hp
    obtain ⟨lane, index⟩ := p
    have := List.mem_zipIdx hp
    simp only [Nat.zero_add, Nat.zero_le, true_and, Nat.sub_zero, List.length_map, List.length_range] at this
    obtain ⟨below, shown⟩ := this
    simp only [List.getElem_map, List.getElem_range, freeLaneOf] at shown
    cases hin : inAccess (addr.toNat % 8) n index <;> simp_all

/-- The length recorded fits the address. -/
theorem receivedLength_fits (draw : Nat) (r : Request) : (receivedLength draw r).fits r.addr = true := by
  unfold receivedLength
  split
  · assumption
  · exact freeLength_fits draw r.addr

/-- What is recorded is of the form of the memory link. -/
theorem received_wf (draw : Nat) (r : Request) : (received draw r).wf = true := by
  have data : payloadWf r.addr (receivedLength draw r) (receivedPayload draw r) = true := by
    unfold receivedPayload
    split
    · rfl
    · split
      · assumption
      · exact freeWords_wf ..
  simp [received, Request.wf, receivedLength_fits, data]

/-- The start address is recorded as received. -/
@[simp] theorem received_addr (draw : Nat) (r : Request) : (received draw r).addr = r.addr := rfl

/-- A length that fits its address is recorded as received. -/
theorem received_len (draw : Nat) (r : Request) (h : r.len.fits r.addr = true) : (received draw r).len = r.len := by
  simp [received, receivedLength, h]

/-- The kind is recorded as received. -/
theorem received_read (draw : Nat) (r : Request) : (received draw r).payload = .read ↔ r.payload = .read := by
  simp only [received, receivedPayload]
  split
  · simp_all
  · split <;> simp_all

/-- Data of the length recorded is recorded as received. -/
theorem received_payload (draw : Nat) (r : Request)
    (h : payloadWf r.addr (received draw r).len r.payload = true) : (received draw r).payload = r.payload := by
  simp only [received, receivedPayload] at h ⊢
  split
  · simp_all
  · next ws hw => rw [hw] at h ⊢; simp [h]

/-- A request of the form of the memory link is recorded as it is. -/
theorem received_of_wf (draw : Nat) (r : Request) (h : r.wf = true) : received draw r = r := by
  obtain ⟨fits, data⟩ := (Bool.and_eq_true _ _).mp h
  have len := received_len draw r fits
  have payload := received_payload draw r (by rw [len]; exact data)
  cases r
  simp only [received] at len payload ⊢
  rw [len, payload]

/-- REQUEST_ARRIVAL answers the state with one more request, with a draw made or none, or the state as it was (R45). -/
theorem execRequestArrival_cases (r : Request) (s : State) :
    (accepts s.uport = true ∧ ∃ q n, q.wf = true ∧
      execRequestArrival r s = .next ((appendRequest q s).setDrawn n)) ∨
    (accepts s.uport = false ∧ execRequestArrival r s = .next s) := by
  unfold execRequestArrival
  cases accepted : accepts s.uport with
  | false => simp
  | true =>
    cases formed : r.wf with
    | true => exact .inl ⟨rfl, r, s.drawn, formed, by
        rw [show (appendRequest r s).setDrawn s.drawn = appendRequest r s from rfl]; simp⟩
    | false => exact .inl ⟨rfl, received s.drawn r, s.drawn + 1, received_wf _ _, by simp⟩

/-! ### READ data (assumption log 7) -/

/-- Free data is as long as the READ asks for. -/
theorem freeData_fits (draw : Nat) (u : UPort) (m : InFlight) : answerFits u m (freeData draw u m) = true := by
  unfold freeData answerFits
  cases readEntry u m.origin <;> simp

/-- DOWNSTREAM_RESPONSE answers a next state always: the member leaves with its outcome, or is discarded as an orphan, or a
stale tag is freed (R74). -/
theorem execDownstreamResponse_cases (tag : Tag) (a : Answer) (s : State) :
    (memberWithTag s.dport tag = none ∧ execDownstreamResponse tag a s = .next (removeStale tag s)) ∨
    ∃ m, memberWithTag s.dport tag = some m ∧
      ((m.orphan = true ∧ execDownstreamResponse tag a s = .next (removeMember tag s)) ∨
        (m.orphan = false ∧ ∃ b n, execDownstreamResponse tag a s =
          .next ((deliver m.origin b (removeMember tag s)).setDrawn n))) := by
  unfold execDownstreamResponse
  cases held : memberWithTag s.dport tag with
  | none => exact .inl ⟨rfl, rfl⟩
  | some m =>
    refine .inr ⟨m, rfl, ?_⟩
    cases orphan : m.orphan with
    | true => exact .inl ⟨rfl, by simp [orphan]⟩
    | false =>
      refine .inr ⟨rfl, ?_⟩
      cases fits : answerFits s.uport m a with
      | true => exact ⟨a, (deliver m.origin a (removeMember tag s)).drawn, by
          rw [State.setDrawn_self]; simp [orphan, fits]⟩
      | false => exact ⟨freeData s.drawn s.uport m, s.drawn + 1, by simp [orphan, fits]⟩

/-! ### The issue of a spill write (R56) -/

/-- Nothing is held, or the head that was held is taken. -/
theorem takeHeldHead_cases (s : State) :
    takeHeldHead s = s ∨
      ∃ e, takingHead s.uport = some e ∧ s.uport.spillHeld = true ∧ spillOrderedHold s e = false ∧
        takeHeldHead s = attemptTaking e s := by
  unfold takeHeldHead
  split
  · exact .inl rfl
  · next e head =>
    split
    · next h =>
      simp only [Bool.and_eq_true, Bool.not_eq_true'] at h
      exact .inr ⟨e, head, h.1, h.2, rfl⟩
    · exact .inl rfl

/-! ### Stalls and coalescing (R5, R51, R53) -/

/-- A stall that runs is left as it is: its timer is not started again. -/
theorem stallHead_of_running (s : State) (timer : StallTimer) (running : s.uport.stall = some timer) : stallHead s = s := by
  unfold stallHead
  rw [running]

/-- Coalescing words of distinct addresses changes lanes only, each entry taking the word of its address. -/
theorem foldl_coalesceWord (ps : List (Word × Lanes)) (es : List Entry) (distinct : (ps.map fun p => p.1).Nodup) :
    ps.foldl coalesceWord es =
      es.map fun e =>
        { e with lanes := ((ps.find? fun p => p.1 == e.addr).map fun p => overlay p.2 e.lanes).getD e.lanes } := by
  induction ps generalizing es with
  | nil => simp
  | cons p ps ih =>
    simp only [List.map_cons, List.nodup_cons] at distinct
    rw [List.foldl_cons, ih _ distinct.2]
    unfold coalesceWord
    rw [List.map_map]
    apply List.map_congr_left
    intro e _
    simp only [Function.comp]
    by_cases h : e.addr = p.1
    · have absent : ps.find? (fun q => q.1 == p.1) = none := by
        rw [List.find?_eq_none]
        intro q hq
        simp only [beq_iff_eq]
        intro k
        exact distinct.1 (k ▸ List.mem_map_of_mem hq)
      simp [h, absent]
    · have h' : ¬p.1 = e.addr := fun k => h k.symm
      simp [h, h']

/-! ### The transfer in ACQUIRE (R111) -/

/-- The reference stays, or is dropped with the good count. -/
theorem dropPassedReference_cases (s : State) :
    dropPassedReference s = s ∨
      dropPassedReference s = s.setTracker { s.tracker with reference := none, goodCount := 0 } := by
  unfold dropPassedReference missingInAcquire
  (repeat' split) <;> simp

end Sys2Proof.Machine
end

