-- ==== Sys2Proof/Laws/Steps.lean ====
section
/-! SUPPORT. What a step can do, said once: the outcomes of a management command, of an idle step and of a step, and the
rule by which a property that exec and the tick keep is kept by every step. -/

namespace Sys2Proof.Machine

/-- The outcome, where it is a next state, has a property. -/
def NextHas (P : State → Prop) (o : Host.Outcome State Fault Refusal) : Prop :=
  match o with
  | .next t => P t
  | .fault _ => True
  | .refused _ => True

@[simp] theorem nextHas_next (P : State → Prop) (t : State) : NextHas P (.next t) = P t := rfl
@[simp] theorem nextHas_fault (P : State → Prop) (f : Fault) : NextHas P (.fault f) = True := rfl
@[simp] theorem nextHas_refused (P : State → Prop) (r : Refusal) : NextHas P (.refused r) = True := rfl

theorem nextHas_iff (P : State → Prop) (o : Host.Outcome State Fault Refusal) :
    NextHas P o ↔ ∀ t, o = .next t → P t := by
  cases o <;> simp

/-- A management command answers the state it found, or the state its execution leaves (R172). -/
theorem runCommand_has (P : State → Prop) (i : Instr) (act : State → State × Option (List Byte)) (s : State)
    (stays : P s) (runs : awaitsCommand s i = true → P (finishCommand (act s).2 (act s).1)) :
    NextHas P (runCommand i act s) := by
  unfold runCommand
  split
  · next h => exact runs h
  · exact stays

/-- What a management command does where the receiver awaits the CRC byte of its frame. -/
theorem runCommand_runs (i : Instr) (act : State → State × Option (List Byte)) (s : State)
    (h : awaitsCommand s i = true) : runCommand i act s = .next (finishCommand (act s).2 (act s).1) := by
  simp [runCommand, h]

/-- Where the receiver does not await it, nothing happens (assumption log 3). -/
theorem runCommand_stays (i : Instr) (act : State → State × Option (List Byte)) (s : State)
    (h : awaitsCommand s i = false) : runCommand i act s = .next s := by
  simp [runCommand, h]

/-- A step with a command waiting. -/
theorem step_cons (s : State) (c : Instr) (rest : List Instr) (h : s.pending = c :: rest) :
    step s = exec c (s.setPending rest) := by
  simp [step, h]

/-- A step with no command waiting. -/
theorem step_nil (s : State) (h : s.pending = []) : step s = idleStep s := by
  simp [step, h]

/-- A property that exec keeps, the tick keeps, and the queue does not bear on, is kept by every step. -/
theorem step_has (P : State → Prop)
    (queue : ∀ s q, P s → P (s.setPending q))
    (command : ∀ i s, P s → NextHas P (exec i s))
    (ticks : ∀ s, P s → dueCommand s = none → P (tick s))
    (s : State) (h : P s) : NextHas P (step s) := by
  unfold step
  split
  · unfold idleStep
    split
    · exact command _ _ h
    · next hd => exact ticks s h hd
  · exact command _ _ (queue _ _ h)

/-- A tick changes the instant, the phase and the SYNC input only (R86, R102). -/
@[simp] theorem tick_keeps (s : State) :
    (tick s).srstn = s.srstn ∧ (tick s).store = s.store ∧ (tick s).windows = s.windows ∧
      (tick s).uport = s.uport ∧ (tick s).drain = s.drain ∧ (tick s).dport = s.dport ∧
      (tick s).tracker = s.tracker ∧ (tick s).sealing = s.sealing ∧ (tick s).ring = s.ring ∧
      (tick s).attention = s.attention ∧ (tick s).management = s.management ∧
      (tick s).drawn = s.drawn ∧ (tick s).pending = s.pending := by
  simp [tick]

end Sys2Proof.Machine
end

