-- ==== Sys2Proof/Tests/Slice0.lean ====
section
/-! SUPPORT. The model's own tests: an ill-formed term for each check of WellFormed, values that the spec works out, and for
every statement of Obligations.lean a concrete state and operands that meet its hypotheses, clause by clause at the edges of
their ranges (test_witness_<statement>). -/

namespace Sys2Proof.Tests

open Sys2Proof.Machine

set_option maxRecDepth 40000

/-! ### Small states -/

/-- Eight bytes, all carried. -/
def lanes : Lanes := List.replicate 8 (some 0xAB#8)

def readWord (a : Word) : Request := { addr := a, len := .words 1, payload := .read }
def writeWord (a : Word) : Request := { addr := a, len := .words 1, payload := .write [lanes] }
def writeByte4 (a : Word) : Request :=
  { addr := a, len := .sub 1, payload := .write [[none, none, none, none, some 0x5A#8, none, none, none]] }

/-- The receiver awaits the CRC byte of a command. -/
def awaiting (i : Instr) (s : State) : State :=
  s.setManagement { s.management with rx := .awaitCrc, buffer := (commandBytes i).getD [], mcsn := .low }

/-- A URQ. -/
def withUrq (es : List UrqEntry) (s : State) : State :=
  s.setUport { s.uport with urq := es, nextSerial := es.length }

/-- One waiting request. -/
def withHead (r : Request) (s : State) : State := withUrq [waitingEntry 0 r] s

/-- A stall with its due instant. -/
def withStall (due : Option Nat) (s : State) : State := s.setUport { s.uport with stall := some { due := due } }

/-- Window 0 enabled over 1000h to 1FFFh. -/
def withWindow (p : Policy) (v : View) (s : State) : State :=
  s.setWindows
    { s.windows with
      active := s.windows.active.set 0 { enable := true, base := 0x1000#32, pages := 1, policy := p, view := v } }

def withFault (s : State) : State := s.setWindows { s.windows with faultSet := 1#16 }
def withArmed (s : State) : State := s.setWindows { s.windows with applyState := .armed }

def openEntry (i : Nat) : Entry :=
  { addr := 0x1000#32 + BitVec.ofNat 32 (8 * i), lanes := lanes, window := 0, position := i + 1 }

/-- An open generation of n entries. -/
def withOpen (n : Nat) (s : State) : State :=
  s.setStore
    { s.store with
      openBody := some
        { entries := (List.range n).map openEntry, windowSet := 1#16, firstWrite := { frame := 0#32, phase := 5 },
          lastWrite := { frame := 0#32, phase := 5 }, deferral := 0 } }

def sealedEntry (i : Nat) (d : DrainState) (retries : Nat) : SealedEntry :=
  { entry := { addr := 0x1800#32 + BitVec.ofNat 32 (8 * i), lanes := lanes, window := 0, position := i + 1 },
    drain := d, retries := retries }

/-- A sealed generation of n entries at its seal, of which some are left. -/
def generation (n : Nat) (es : List SealedEntry) : SealedGen :=
  { number := 1#32, entries := es, entryCount := n, byteCount := 8 * n, windowSet := 1#16,
    firstWrite := { frame := 0#32, phase := 5 }, lastWrite := { frame := 0#32, phase := 5 }, deferral := 0,
    stamp := { frame := 0#32, phase := 7 }, cause := .sealPoint, sealTime := 0, deadline := 4000, tracker := .free,
    late := false, doneCount := n - es.length, droppedCount := 0 }

def withGen (g : SealedGen) (cursor : Nat) (s : State) : State :=
  (s.setStore { s.store with openNumber := 2#32, sealedGen := some g }).setDrain
    { cursor := some cursor, urgent := false }

def member (t : Tag) (o : Origin) (orphan : Bool) : InFlight :=
  { tag := t, origin := o, issueTime := 0, expiry := 4096, orphan := orphan }

def withMembers (ms : List InFlight) (s : State) : State := s.setDport { s.dport with inFlight := ms }

def withStale (t : Tag) (release : Nat) (s : State) : State :=
  s.setDport { s.dport with stale := [{ tag := t, release := release }] }

def withTracker (t : TrackerState) (reference : Option Nat) (s : State) : State :=
  s.setTracker { s.tracker with state := t, reference := reference, trackEn := t != .free }

def withPhase (n : Nat) (s : State) : State := s.setTimer { s.timer with phase := n }
def withCauses (n : Half) (s : State) : State := s.setAttention { s.attention with causes := n }
def withHold (s : State) : State := s.setSealing { s.sealing with hold := .held }
def withRx (x : RxState) (s : State) : State := s.setManagement { s.management with rx := x, mcsn := .low }

/-- The eight tags in flight. -/
def allTags : List InFlight := tags.map fun t => member t (.write t.val) false

/-- A record. -/
def aRecord : CommitRecord := retirementRecord (generation 1 []) 100

/-- What a command leaves; the state itself where it stops. -/
def after (i : Instr) (s : State) : State :=
  match exec i s with
  | .next t => t
  | .fault _ => s
  | .refused _ => s

/-- The reply that a management command makes. -/
def replyOf (i : Instr) (s : State) : Option (List Byte) := (after i (awaiting i s)).management.slot

/-- A machine at work: a request waits, one entry is open, a generation of two drains with its first entry in flight. -/
def atWork : State :=
  withHead (writeWord 0x1008#32) (withWindow .stall .latest (withOpen 1
    (withMembers [member 0 (.drain 1) false]
      (withGen (generation 2 [sealedEntry 0 .inFlight 0, sealedEntry 1 .pending 0]) 2 State.reset))))

/-! ### Well-formedness: an ill-formed term for each check -/

theorem test_wf_rejects_length_of_3_bytes : (Length.sub 3).wf = false := by decide
theorem test_wf_rejects_run_of_no_words : (Length.words 0).wf = false := by decide
theorem test_wf_rejects_run_of_9_words : (Length.words 9).wf = false := by decide
theorem test_wf_rejects_misaligned_address :
    ({ addr := 0x1002#32, len := .sub 4, payload := .read } : Request).wf = false := by decide
theorem test_wf_rejects_misaligned_run : (readWord 0x1004#32).wf = false := by decide
theorem test_wf_rejects_line_crossing :
    ({ addr := 0x1038#32, len := .words 2, payload := .read } : Request).wf = false := by decide
theorem test_wf_rejects_missing_data :
    ({ addr := 0x1000#32, len := .words 2, payload := .write [lanes] } : Request).wf = false := by decide
theorem test_wf_rejects_short_lanes :
    ({ addr := 0x1000#32, len := .words 1, payload := .write [[none]] } : Request).wf = false := by decide
theorem test_wf_rejects_sub_word_mask_elsewhere : (writeByte4 0x1003#32).wf = false := by decide
theorem test_wf_accepts_sub_word_mask : (writeByte4 0x1004#32).wf = true := by decide
theorem test_wf_accepts_sub_word_mask_in_part :
    ({ writeByte4 0x1004#32 with len := .sub 4 } : Request).wf = true ∧
      ({ writeByte4 0x1000#32 with len := .sub 4 } : Request).wf = false := by decide
theorem test_wf_rejects_long_response :
    (Instr.downstreamResponse 0 (.ok (List.replicate 65 0#8))).wf = false := by decide
theorem test_wf_rejects_whole_leftover_byte : (Instr.frameEnd (List.replicate 8 true)).wf = false := by decide
theorem test_wf_rejects_write_of_item_with_own_row :
    (Instr.writeItem 0x0010#16 0#32).wf = false ∧ (Instr.writeItem 0x004F#16 0#32).wf = false ∧
      (Instr.writeItem 0x00B0#16 0#32).wf = false ∧ (Instr.writeItem 0x00B2#16 0#32).wf = false ∧
      (Instr.writeItem 0x00C1#16 0#32).wf = false ∧ (Instr.writeItem 0x00C6#16 0#32).wf = false ∧
      (Instr.writeItem 0x0111#16 0#32).wf = false ∧ (Instr.writeItem 0x00C0#16 1#32).wf = false := by decide
theorem test_wf_accepts_other_writes :
    (Instr.writeItem 0x000F#16 0#32).wf = true ∧ (Instr.writeItem 0x0050#16 0#32).wf = true ∧
      (Instr.writeItem 0x00B3#16 0#32).wf = true ∧ (Instr.writeItem 0x00C7#16 0#32).wf = true ∧
      (Instr.writeItem 0x00C0#16 2#32).wf = true := by decide

/-! ### Values that the spec works out -/

/-- The frames of R175's examples decode to their commands. -/
theorem test_frames_decode :
    commandOfBytes [0x00#8] = some .nop ∧ commandOfBytes [0x0A#8] = some .commitNow ∧
      commandOfBytes [0x01#8, 0x00#8, 0xF0#8, 0x05#8] = some (.readItem 0x00F0#16 5#8) ∧
      commandOfBytes [0x02#8, 0x01#8, 0x11#8, 0#8, 0#8, 0xFF#8, 0xAE#8] = some (.enableSetWrite 0x0000FFAE#32) ∧
      commandOfBytes [0x05#8] = none ∧ commandOfBytes [0x0F#8, 0#8] = none := by decide

/-- The two READ_ITEM examples of R182: eight shadow items of windows 0 and 1, and a run over 00B3h. -/
theorem test_read_item_examples :
    readItemReply 0x0010#16 8#8 State.reset =
      0x00#8 :: (bytes32 0#32 ++ bytes32 1#32 ++ bytes32 0#32 ++ bytes32 0#32 ++
        bytes32 0#32 ++ bytes32 1#32 ++ bytes32 0#32 ++ bytes32 0#32) ∧
      readItemReply 0x00B0#16 4#8 State.reset = [0x02#8] := by decide

/-- The power-on values of the item map (section 10.9). -/
theorem test_power_on_items :
    itemValue State.reset .deviceId = 0x46480416#32 ∧ itemValue State.reset (.shadowTiming .period) = 0xC350#32 ∧
      itemValue State.reset (.activeTiming .sealPhase) = 0xAFC8#32 ∧
      itemValue State.reset (.shadowTiming .deadline) = 0xFA0#32 ∧
      itemValue State.reset (.trackerParam .tolWide) = 0x1F4#32 ∧ itemValue State.reset .openGen = 1#32 ∧
      itemValue State.reset .freeSlots = 0x200#32 ∧ itemValue State.reset .stallLimit = 0x400#32 := by decide

/-- A NOP frame collects nothing: two bytes 00h 00h (R175, R181). -/
theorem test_nop_frame :
    (after .frameStart State.reset).management.outgoing = some [0#8, 0#8, 0#8] ∧
      (after (.commandParameterByte 0#8) (after .frameStart State.reset)).management.rx = .awaitCrc ∧
      replyOf .nop State.reset = none := by decide

/-- No word of the table has bits. -/
theorem test_no_word_spells_a_command : decodeTableWord 8 0 = none ∧ State.reset.withFetchWord 8 0 = State.reset :=
  ⟨rfl, rfl⟩

/-- COMMIT_NOW seals an open generation of one entry (R131). -/
theorem test_commit_now_seals :
    let s := after .commitNow (awaiting .commitNow (withOpen 1 State.reset))
    openCount s.store = 0 ∧ sealedRemaining s.store = 1 ∧ s.store.openNumber = 2#32 ∧
      s.drain.cursor = some 1 := by decide

/-- The grant of a drain write: one word at the entry's address, with the lowest free tag (R65, R72). -/
theorem test_grant_issues_the_drain_write :
    let s := after .grant (withGen (generation 1 [sealedEntry 0 .pending 0]) 1 State.reset)
    s.dport.sent = [{ tag := 0, request := writeWord 0x1800#32 }] ∧ s.drain.cursor = some 2 := by decide

/-- The answer to the last drain write retires the generation with its record (R66, R70). -/
theorem test_answer_retires_the_generation :
    let s := after (.downstreamResponse 0 (.ok []))
      (withMembers [member 0 (.drain 1) false] (withGen (generation 1 [sealedEntry 0 .inFlight 0]) 2 State.reset))
    s.store.sealedGen = none ∧ s.attention.causes = 1#16 ∧
      (s.ring.map fun e => e.record.outcome) = [.complete] := by decide

/-! ### Witnesses: the machine -/

theorem test_witness_StepRunsFrontCommand :
    (State.reset.setPending [.hold, .nop]).pending = .hold :: [.nop] := rfl

theorem test_witness_IdleStepRunsDueEventElseTicks :
    State.reset.pending = [] ∧ dueCommand State.reset = none ∧
      dueCommand (withPhase 45000 State.reset) = some .sealPoint := by decide

/-- Every timer runs and none has come: a stall, a member, a stale tag, a deadline, an acquisition and a holdover. -/
theorem test_witness_NoTickPassesADueEvent :
    let running := withStall (some 10) (withHead (writeWord 0x1000#32) (withStale 1 10
      (withGen (generation 1 [sealedEntry 0 .inFlight 0]) 2 (withMembers [member 0 (.drain 1) false] State.reset))))
    dueCommand running = none ∧ takingHead running.uport ≠ none ∧ running.uport.stall = some { due := some 10 } ∧
      running.dport.inFlight.length = 1 ∧ running.dport.stale.length = 1 ∧ running.store.sealedGen.isSome = true ∧
      dueCommand (withTracker .acquire (some 0) State.reset) = none ∧
      dueCommand (withPhase 50000 (((withTracker .holdover (some 0) State.reset).setTracker
        { (withTracker .holdover (some 0) State.reset).tracker with plast := 50001 }).setTimer
          { State.reset.timer with offered := true })) = none := by decide +kernel

theorem test_witness_CommandsLeaveTheQueue : ∃ t, exec .hold (awaiting .hold State.reset) = .next t := ⟨_, rfl⟩

/-- The edge that faults, and a misaligned request and a READ response of one byte, which do not stop. -/
theorem test_witness_StopsAreOnlyThoseNamed :
    exec .syncEdge (((withTracker .track (some 0) State.reset).setNow 50501)) = .fault .lateEdgeInTrack ∧
      (readWord 0x1004#32).wf = false ∧
      (∃ t, exec (.requestArrival (readWord 0x1004#32)) State.reset = .next t) ∧
      ∃ t, exec (.downstreamResponse 0 (.ok [0#8]))
        (withMembers [member 0 (.read 0) false] (withHead (readWord 0x1000#32) State.reset)) = .next t :=
  ⟨rfl, by decide, ⟨_, rfl⟩, _, rfl⟩

/-! ### Witnesses: the laws -/

theorem test_witness_AttentionLawIsKept : AttentionLaw atWork ∧ ∃ t, step atWork = .next t := ⟨by rfl, _, rfl⟩

theorem test_witness_RingLawIsKept :
    let s := atWork.setRing ((List.replicate 15 { record := aRecord, isRead := true }) ++
      [{ record := aRecord, isRead := false }])
    RingLaw s ∧ ∃ t, step s = .next t := ⟨⟨by decide, by decide⟩, _, rfl⟩

theorem test_witness_TagLawIsKept : TagLaw (withStale 1 10 atWork) ∧ ∃ t, step (withStale 1 10 atWork) = .next t :=
  ⟨by unfold TagLaw; decide, _, rfl⟩

theorem test_witness_WindowLawIsKept : WindowLaw atWork ∧ ∃ t, step atWork = .next t :=
  ⟨⟨by decide, by decide, by unfold DescriptorFormed; decide, by unfold DescriptorFormed; decide, by decide⟩, _, rfl⟩

theorem test_witness_SettingsLawIsKept : SettingsLaw (withHold atWork) ∧ ∃ t, step (withHold atWork) = .next t :=
  ⟨⟨by decide, by decide, by decide, by decide, by decide, by decide, by decide, ⟨by decide, by decide, by decide⟩,
    ⟨by decide, by decide, by decide⟩, ⟨by decide, by decide, by decide, by decide⟩⟩, _, rfl⟩

theorem atWork_uport : UPortLaw atWork :=
  ⟨by decide, by decide, by decide, by decide, by decide, by decide, by decide⟩

theorem test_witness_UPortLawIsKept : UPortLaw atWork ∧ ∃ t, step atWork = .next t := ⟨atWork_uport, _, rfl⟩

theorem atWork_store : StoreLaw atWork where
  slots := by decide
  body := by intro b h; cases h; decide
  openPositions := by decide
  openWords := by decide
  sealedWords := by decide
  openFormed := by unfold EntryFormed; decide
  sealedFormed := by unfold EntryFormed; decide
  openWindows := by intro b h; cases h; decide

theorem test_witness_StoreLawIsKept : UPortLaw atWork ∧ StoreLaw atWork ∧ ∃ t, step atWork = .next t :=
  ⟨atWork_uport, atWork_store, _, rfl⟩

theorem atWork_drain : DrainLaw atWork where
  oneEach := by decide
  noOrphan := by decide
  absent := by intro h; cases h
  present := by
    intro g h
    cases h
    refine ⟨2, rfl, ?_⟩
    exact
      { remaining := by decide
        counts := by decide
        ordered := by decide
        inRange := by decide
        neverIssued := by decide
        allAbove := by
          intro p low high
          have : p = 2 := le_antisymm high low
          subst this
          decide
        cursorRange := by decide
        inFlight := by
          intro p
          have left : drainPositions atWork.dport = [1] := by decide
          simp [left, generation, sealedEntry, eq_comm] }

theorem test_witness_DrainLawIsKept :
    TagLaw atWork ∧ UPortLaw atWork ∧ StoreLaw atWork ∧ DrainLaw atWork ∧ ∃ t, step atWork = .next t :=
  ⟨by unfold TagLaw; decide, atWork_uport, atWork_store, atWork_drain, _, rfl⟩

/-- Both entries of the generation in flight: nothing is offered. -/
def allIssued : State :=
  withMembers [member 0 (.drain 1) false, member 1 (.drain 2) false]
    (withGen (generation 2 [sealedEntry 0 .inFlight 0, sealedEntry 1 .inFlight 0]) 3 State.reset)

/-- The second entry waits for its retry. -/
def retrying : State :=
  withMembers [member 0 (.drain 1) false]
    (withGen (generation 2 [sealedEntry 0 .inFlight 0, sealedEntry 1 .pending 1]) 3 State.reset)

theorem allIssued_drain : DrainLaw allIssued where
  oneEach := by decide
  noOrphan := by decide
  absent := by intro h; cases h
  present := by
    intro g h
    cases h
    refine ⟨3, rfl, ?_⟩
    exact
      { remaining := by decide
        counts := by decide
        ordered := by decide
        inRange := by decide
        neverIssued := by decide
        allAbove := fun p low high => absurd (le_trans low high) (by decide)
        cursorRange := by decide
        inFlight := by
          intro p
          have left : drainPositions allIssued.dport = [1, 2] := by decide
          simp [left, generation, sealedEntry, eq_comm] }

theorem retrying_drain : DrainLaw retrying where
  oneEach := by decide
  noOrphan := by decide
  absent := by intro h; cases h
  present := by
    intro g h
    cases h
    refine ⟨3, rfl, ?_⟩
    exact
      { remaining := by decide
        counts := by decide
        ordered := by decide
        inRange := by decide
        neverIssued := by decide
        allAbove := fun p low high => absurd (le_trans low high) (by decide)
        cursorRange := by decide
        inFlight := by
          intro p
          have left : drainPositions retrying.dport = [1] := by decide
          simp [left, generation, sealedEntry, eq_comm] }

/-- A tracker in TRACK one tick after an accepted edge. -/
def tracking : State :=
  ((withTracker .track (some 99) (withPhase 1 State.reset)).setTracker
    { (withTracker .track (some 99) State.reset).tracker with plast := 50500 }).setNow 100

theorem tracking_timing : TimingLaw tracking where
  activeSet := ⟨by decide, by decide, by decide⟩
  parameters := ⟨by decide, by decide, by decide, by decide⟩
  enabled := by decide
  states := ⟨rfl, ⟨99, rfl, by decide, by decide, by decide, by decide⟩, by decide⟩

theorem test_witness_TimingLawIsKept : TimingLaw tracking ∧ ∃ t, step tracking = .next t := ⟨tracking_timing, _, rfl⟩

theorem test_witness_TimingLawExcludesTheFault : TimingLaw tracking := tracking_timing

/-! ### Witnesses: encodings -/

theorem test_witness_CommandFramesRoundTrip :
    (Instr.writeItem 0x0103#16 15#32).wf = true ∧
      commandBytes (.writeItem 0x0103#16 15#32) = some [0x02#8, 0x01#8, 0x03#8, 0#8, 0#8, 0#8, 0x0F#8] := by decide

/-! ### Witnesses: upstream commands -/

/-- Room for the eighth request, a full URQ, and a closed port; a request that crosses its line and one whose data alone is
not of the form. -/
theorem test_witness_RequestArrivalIsAcceptedOrWithheld :
    let seven := withUrq ((List.range 7).map fun n => waitingEntry n (readWord 0x1000#32)) State.reset
    let eight := withUrq ((List.range 8).map fun n => waitingEntry n (readWord 0x1000#32)) State.reset
    let crossing : Request := { addr := 0x1038#32, len := .words 2, payload := .read }
    let short : Request := { addr := 0x1000#32, len := .words 2, payload := .write [lanes] }
    (crossing.wf = false ∧ crossing.len.fits crossing.addr = false) ∧
      (short.wf = false ∧ short.len.fits short.addr = true) ∧
      (readWord 0x1038#32).wf = true ∧ seven.uport.isOpen = true ∧ seven.uport.urq.length < 8 ∧
      8 ≤ eight.uport.urq.length ∧ (assertReset State.reset).uport.isOpen = false := by decide

theorem test_witness_TakingPassThroughOrHeld :
    let s := withHead (readWord 0x1000#32) State.reset
    let e := waitingEntry 0 (readWord 0x1000#32)
    takingHead State.reset.uport = none ∧ (withStall none s).uport.stall ≠ none ∧
      spillOrderedHold (s.setUport
        { s.uport with issueOrder := [{ origin := .spill 9, request := writeWord 0x1000#32 }] }) e = false ∧
      spillOrderedHold ((withWindow .spill .latest s).setUport
        { s.uport with issueOrder := [{ origin := .spill 9, request := writeWord 0x1000#32 }] }) e = true ∧
      CanTake s e ∧ classify s.windows e.request.addr = .passThrough := by decide

/-- The first and the last address of a window, and the addresses beside it; the law that the last clause rests on. -/
theorem test_witness_TakingPassThroughOrHeld_classify :
    let t := (withWindow .spill .committed (withFault State.reset)).windows
    classify t 0x0FFF#32 = .passThrough ∧ classify t 0x1000#32 = .staged 0 .spill .committed .faulted ∧
      classify t 0x1FFF#32 = .staged 0 .spill .committed .faulted ∧ classify t 0x2000#32 = .passThrough ∧
      WindowLaw (withWindow .spill .committed State.reset) :=
  ⟨by decide, by decide, by decide, by decide,
    ⟨by decide, by decide, by unfold DescriptorFormed; decide, by unfold DescriptorFormed; decide, by decide⟩⟩

/-- A write that fits, one that does not under each policy, and one in a FAULTED window. -/
theorem test_witness_TakingStagedWrite :
    let e := waitingEntry 0 (writeWord 0x1FF8#32)
    let full (p : Policy) := withHead (writeWord 0x1FF8#32) (withWindow p .latest (withOpen 511 State.reset))
    let last (p : Policy) := (full p).setStore
      { (full p).store with sealedGen := some (generation 1 [sealedEntry 100 .inFlight 0]) }
    (CanTake (full .stall) e ∧ classify (full .stall).windows e.request.addr = .staged 0 .stall .latest .normal ∧
      need (full .stall).store e.request ≤ freeSlots (full .stall).store) ∧
    (∀ p ∈ [Policy.stall, .reject, .spill], CanTake (last p) e ∧
      classify (last p).windows e.request.addr = .staged 0 p .latest .normal ∧
      freeSlots (last p).store < need (last p).store e.request) ∧
    ((carryingWords e.request).filter fun q => !hasOpen (last .spill).store q.1) ≠ [] ∧
    CanTake (withFault (full .stall)) e ∧
    classify (withFault (full .stall)).windows e.request.addr = .staged 0 .stall .latest .faulted := by decide +kernel

/-- A stalled write offered again: still not stageable its timer of instant 5 runs on, though STALL_LIMIT would give
another; stageable it is staged and the stall ends (R53). -/
theorem test_witness_TakingStagedWrite_offered_again :
    let e := waitingEntry 0 (writeWord 0x1FF8#32)
    let fits := withStall (some 5) (withHead (writeWord 0x1FF8#32) (withWindow .stall .latest (withOpen 511 State.reset)))
    let full := fits.setStore
      { fits.store with sealedGen := some (generation 1 [sealedEntry 100 .inFlight 0]) }
    (e.request.payload = .write [lanes] ∧ classify full.windows e.request.addr = .staged 0 .stall .latest .normal ∧
      freeSlots full.store < need full.store e.request ∧ full.uport.stall = some { due := some 5 } ∧
      attemptTaking e full = full) ∧
    need fits.store e.request ≤ freeSlots fits.store ∧ (attemptTaking e fits).uport.stall = none := by decide +kernel

/-- Every word of the write has an open entry. -/
theorem test_witness_TakingStagedWrite_nothing_remains :
    let e := waitingEntry 0 (writeWord 0x1000#32)
    let s := withHead (writeWord 0x1000#32) (withWindow .spill .latest (withOpen 1 State.reset))
    ((carryingWords e.request).filter fun q => !hasOpen s.store q.1) = [] ∧ CanTake s e := by decide

theorem test_witness_StagingWritesTheBytes :
    (writeWord 0x1008#32).wf = true ∧ (∀ e ∈ openEntries (withOpen 2 State.reset).store, e.lanes.length = 8) ∧
      carryingWords (writeWord 0x1008#32) ≠ [] ∧
      ((openEntries (withOpen 2 State.reset).store).map fun e => e.addr).Nodup ∧
      (∀ e ∈ openEntries (withOpen 2 State.reset).store, e.addr = wordAddr e.addr) ∧
      ((carryingWords (writeWord 0x1010#32)).filter fun p => !hasOpen (withOpen 2 State.reset).store p.1) ≠ [] ∧
      carryingWords { addr := 0#32, len := .words 1, payload := .write [emptyLanes] } = [] ∧
      (withOpen 2 State.reset).store.openBody ≠ none ∧ State.reset.store.openBody = none := by decide

theorem test_witness_CoalesceOnlyWritesHeldWords :
    let r : Request := { addr := 0x1008#32, len := .words 2, payload := .write [lanes, lanes] }
    r.wf = true ∧ (∀ e ∈ openEntries (withOpen 2 State.reset).store, e.lanes.length = 8) ∧
      ((openEntries (withOpen 2 State.reset).store).map fun e => e.addr).Nodup ∧
      (∀ e ∈ openEntries (withOpen 2 State.reset).store, e.addr = wordAddr e.addr) ∧
      (carryingWords r).any (fun p => hasOpen (withOpen 2 State.reset).store p.1) = true ∧
      (carryingWords r).all (fun p => !hasOpen State.reset.store p.1) = true := by decide

theorem test_witness_SpillWriteCarriesTheRemainingWords :
    let r : Request := { addr := 0x1000#32, len := .words 3, payload := .write [lanes, emptyLanes, lanes] }
    r.wf = true ∧ ((carryingWords r).filter fun p => !hasOpen (withOpen 1 State.reset).store p.1) ≠ [] ∧
      (writeByte4 0x1004#32).wf = true ∧
      ((carryingWords (writeByte4 0x1004#32)).filter fun p => !hasOpen State.reset.store p.1) ≠ [] := by decide

/-- A read wholly supplied by the open entry, and one partly from memory. -/
theorem test_witness_TakingStagedRead :
    let supplied := withHead (readWord 0x1000#32) (withWindow .stall .latest (withOpen 1 State.reset))
    let partly := withHead (readWord 0x1FF8#32) (withWindow .stall .committed (withOpen 1 State.reset))
    CanTake supplied (waitingEntry 0 (readWord 0x1000#32)) ∧
      classify supplied.windows 0x1000#32 = .staged 0 .stall .latest .normal ∧
      (rangeBytes (readWord 0x1000#32)).map (openByte supplied.store) = (List.replicate 8 0xAB#8).map some ∧
      CanTake partly (waitingEntry 0 (readWord 0x1FF8#32)) ∧
      classify partly.windows 0x1FF8#32 = .staged 0 .stall .committed .normal ∧
      sealedByte partly.store 0x1FFF#32 = none := by decide

theorem test_witness_ResponseDeparture :
    let e : UrqEntry := { waitingEntry 0 (readWord 0#32) with phase := .answeredReady, response := some .error }
    (withUrq [e] State.reset).uport.urq = e :: [] ∧ e.phase = .answeredReady ∧ e.response = some .error ∧
      State.reset.uport.isOpen = true ∧ (waitingEntry 0 (readWord 0#32)).phase ≠ .answeredReady := by decide

/-- The due instant is now, the next tick, and absent. -/
theorem test_witness_StallTimerExpiry :
    let s := withHead (writeWord 0x1000#32) State.reset
    (withStall (some 0) s).uport.stall = some { due := some 0 } ∧ 0 ≤ s.now ∧ takingHead s.uport ≠ none ∧
      (withStall (some 1) s).now < 1 ∧ (withStall none s).uport.stall = some { due := none } := by decide

/-! ### Witnesses: downstream commands -/

/-- A state whose two requesters both wait. -/
def contended : State :=
  let s := withGen (generation 1 [sealedEntry 0 .pending 0]) 1 State.reset
  s.setUport { s.uport with issueOrder := [{ origin := .read 0, request := readWord 0x5000#32 }] }

theorem test_witness_GrantIssuesTheChosenRequest :
    lowestFreeTag contended.dport = some 0 ∧ (passOffer contended).isSome = true ∧
      (drainOffer contended).isSome = true ∧
      contended.dport.shareCounter < contended.dport.drainShare ∧
      (drainOffer (contended.setStore State.reset.store) = none ∧
        (passOffer (contended.setStore State.reset.store)).isSome = true) ∧
      (passOffer (contended.setUport State.reset.uport) = none ∧
        (drainOffer (contended.setUport State.reset.uport)).isSome = true) ∧
      lowestFreeTag (withMembers allTags contended).dport = none := by decide

/-- A read in a window behind the unissued spill write of its word. -/
def spilling : State :=
  let s := withHead (readWord 0x1000#32) (withWindow .spill .latest State.reset)
  s.setUport { s.uport with issueOrder := [{ origin := .spill 9, request := writeWord 0x1000#32 }] }

/-- The attempt comes first, the head stays held, and the issue takes it; with the issue first, the attempt does (R56). -/
theorem test_witness_GrantIssuesTheChosenRequest_takes_the_held_head :
    let held := after .taking spilling
    held.uport.spillHeld = true ∧ (takingHead held.uport).isSome = true ∧
      ((after .grant held).uport.urq.map fun e => e.phase) = [.forwarded] ∧
      (after .grant held).uport.spillHeld = false ∧
      ((after .grant spilling).uport.urq.map fun e => e.phase) = [.waiting] ∧
      ((after .taking (after .grant spilling)).uport.urq.map fun e => e.phase) = [.forwarded] := by decide

/-- A spill write held by a sealed entry of its word, one that is not held, and the last free tag. -/
theorem test_witness_OffersFollowTheirOrders :
    let spill (a : Word) := contended.setUport
      { contended.uport with issueOrder := [{ origin := .spill 0, request := writeWord a }] }
    passOffer (spill 0x1800#32) = none ∧ (passOffer (spill 0x1808#32)).isSome = true ∧
      lowestFreeTag (withMembers (allTags.take 7) State.reset).dport = some 7 ∧
      (DrainLaw atWork ∧ (drainOffer atWork).isSome = true) ∧ (DrainLaw allIssued ∧ drainOffer allIssued = none) ∧
      DrainLaw retrying ∧ drainOffer retrying = some (sealedEntry 1 .pending 1) :=
  ⟨by decide, by decide, by decide, ⟨atWork_drain, by decide⟩, ⟨allIssued_drain, by decide⟩, retrying_drain, by decide⟩

/-- Members of each upstream origin, an orphan, a stale tag and an unknown one; data as long as the READ, and not. -/
theorem test_witness_ResponseAnswersOrIsDiscarded :
    let s := withHead (readWord 0x1000#32) (withStale 5 10
      (withMembers [member 0 (.read 0) false, member 1 (.write 0) false, member 2 (.spill 0) false,
        member 3 (.read 0) true] State.reset))
    memberWithTag s.dport 0 = some (member 0 (.read 0) false) ∧
      (List.replicate 8 0#8).length = (readWord 0x1000#32).len.bytes ∧
      ([] : List Byte).length ≠ (readWord 0x1000#32).len.bytes ∧
      s.uport.urq.find? (fun x => x.serial == 0) = some (waitingEntry 0 (readWord 0x1000#32)) ∧
      memberWithTag s.dport 1 = some (member 1 (.write 0) false) ∧
      memberWithTag s.dport 2 = some (member 2 (.spill 0) false) ∧
      memberWithTag s.dport 3 = some (member 3 (.read 0) true) ∧
      memberWithTag s.dport 5 = none ∧ 7 ∉ tagsInUse s.dport := by decide

/-- An entry that leaves another behind, the last entry, and a stalled write to offer again. -/
theorem test_witness_DrainWriteAnsweredOk :
    let two := generation 2 [sealedEntry 0 .inFlight 0, sealedEntry 1 .pending 0]
    let one := generation 1 [sealedEntry 0 .inFlight 0]
    memberWithTag atWork.dport 0 = some (member 0 (.drain 1) false) ∧ atWork.store.sealedGen = some two ∧
      inFlightEntry two 1 = some (sealedEntry 0 .inFlight 0) ∧
      (two.entries.filter fun x => x.entry.position != 1) ≠ [] ∧
      inFlightEntry one 1 = some (sealedEntry 0 .inFlight 0) ∧
      (one.entries.filter fun x => x.entry.position != 1) = [] ∧
      (withStall none atWork).uport.stall = some { due := none } ∧
      takingHead (withStall none atWork).uport = some (waitingEntry 0 (writeWord 0x1008#32)) := by decide

/-- Retries used below the limit of 1, and at it. -/
theorem test_witness_DrainWriteFailed :
    let used := generation 1 [sealedEntry 0 .inFlight 1]
    memberWithTag atWork.dport 0 = some (member 0 (.drain 1) false) ∧
      (sealedEntry 0 .inFlight 0).retries < atWork.dport.retryLimit ∧
      inFlightEntry used 1 = some (sealedEntry 0 .inFlight 1) ∧
      State.reset.dport.retryLimit ≤ (sealedEntry 0 .inFlight 1).retries ∧
      (used.entries.filter fun x => x.entry.position != 1) = [] := by decide

/-- A member at its expiry, for each origin and an orphan, and one a tick before it. -/
theorem test_witness_DownstreamTimeoutExpiry :
    let s (o : Origin) (orphan : Bool) := withMembers [member 0 o orphan] State.reset
    (∀ o ∈ [Origin.read 0, .write 0, .spill 0, .drain 1],
      memberWithTag ((s o false).setNow 4096).dport 0 = some (member 0 o false)) ∧
      (member 0 (.read 0) false).expiry ≤ ((s (.read 0) true).setNow 4096).now ∧
      ((s (.read 0) true).setNow 4095).now < (member 0 (.read 0) true).expiry ∧
      memberWithTag State.reset.dport 0 = none := by decide

theorem test_witness_StaleReleaseAndDeadline :
    let s := withStale 1 10 (withGen (generation 1 [sealedEntry 0 .inFlight 0]) 2 State.reset)
    (∃ x ∈ (s.setNow 10).dport.stale, x.tag = 1 ∧ x.release ≤ (s.setNow 10).now) ∧
      (∀ x ∈ (s.setNow 9).dport.stale, x.tag = 1 → (s.setNow 9).now < x.release) ∧
      (generation 1 [sealedEntry 0 .inFlight 0]).late = false ∧
      (generation 1 [sealedEntry 0 .inFlight 0]).deadline ≤ (s.setNow 4000).now ∧
      (s.setNow 3999).now < (generation 1 [sealedEntry 0 .inFlight 0]).deadline := by decide

/-- The reopening at a retirement after the deassertion, and the port that stays as it is. -/
theorem test_witness_RetirementEndsTheGeneration :
    let closed := (assertReset State.reset).setSrstn .high
    closed.uport.isOpen = false ∧ closed.srstn = .high ∧ closed.store.sealedGen = none ∧
      State.reset.uport.isOpen = true ∧ (assertReset State.reset).srstn = .low := by decide

/-! ### Witnesses: seals, applies and permission -/

theorem test_witness_RaiseAddsOneCause : inCauseSet (withCauses 0x8000#16 State.reset).attention.causes .warmReset = true := by
  decide

theorem test_witness_SealOfTheOpenGeneration :
    (withOpen 1 State.reset).store.openBody ≠ none ∧ State.reset.windows.applyState = .idle ∧
      (withArmed State.reset).windows.applyState = .armed := by decide

/-- A window that ends at the limit, one past it, and two that meet. -/
theorem test_witness_ApplyValidatesTheShadowTable :
    let at' (base : Word) (pages : Nat) : Descriptor :=
      { enable := true, base := base, pages := pages, policy := .stall, view := .latest }
    failingWindow (State.reset.windows.shadow.set 15 (at' 0xFFFFF000#32 1)) = none ∧
      failingWindow (State.reset.windows.shadow.set 15 (at' 0xFFFFF000#32 2)) = some 15 ∧
      failingWindow ((State.reset.windows.shadow.set 3 (at' 0x1000#32 2)).set 9 (at' 0x2000#32 1)) = some 3 ∧
      failingWindow ((State.reset.windows.shadow.set 3 (at' 0x1000#32 1)).set 9 (at' 0x2000#32 1)) = none := by decide

theorem test_witness_PermissionReturnTakesWhatWaits :
    let owed := (withOpen 1 State.reset).setSealing { State.reset.sealing with owed := true, commitNow := true }
    framePermission owed = true ∧ owed.sealing.lateSeal = .immediate ∧ openEntries owed.store ≠ [] ∧
      commandPermission owed = true ∧ openEntries State.reset.store = [] ∧
      framePermission (withHold owed) = false ∧ commandPermission (withHold owed) = false := by decide

/-! ### Witnesses: frame timing commands -/

/-- The phase at SEAL_PHASE with the flag clear, under frame permission and without it. -/
theorem test_witness_SealPointIsTakenOrRefused :
    let s := withPhase 45000 State.reset
    s.timer.offered = false ∧ s.timer.phase = s.timer.active.sealPhase ∧ framePermission s = true ∧
      openEntries s.store = [] ∧ openEntries (withOpen 1 s).store ≠ [] ∧
      (withPhase 44999 State.reset).timer.phase ≠ State.reset.timer.active.sealPhase ∧
      framePermission (withHold s) = false ∧ (withHold s).store.sealedGen = none ∧
      framePermission (withGen (generation 1 [sealedEntry 0 .inFlight 0]) 2 s) = false := by decide

/-- The phase at PERIOD, and in HOLDOVER at Plast; a valid shadow set, one that is not; the last holdover frame. -/
theorem test_witness_FrameBoundaryBeginsAFrame :
    let s := withPhase 50000 State.reset
    let holding := (withTracker .holdover (some 0) State.reset).setTracker
      { (withTracker .holdover (some 0) State.reset).tracker with plast := 0, holdoverCount := 7 }
    s.tracker.state = .free ∧ s.timer.active.period ≤ s.timer.phase ∧
      ¬State.reset.timer.active.period ≤ (withPhase 49999 State.reset).timer.phase ∧
      holding.tracker.plast ≤ holding.timer.phase ∧
      holding.tracker.holdoverCount + 1 = holding.tracker.holdoverLimit ∧
      timingValid { period := 256, sealPhase := 255, deadline := 256 } false 0 = true ∧
      timingValid { period := 256, sealPhase := 256, deadline := 1 } false 0 = false := by decide

/-- In ACQUIRE, a transfer that shortens PERIOD: the time since the reference at the new PERIOD + TOL_WIDE, and past it, where
the reference is dropped at the boundary (R111). A hold at its limit; a SEAL_PHASE of 0; a short frame. -/
theorem test_witness_FrameBoundaryBeginsAFrame_acquire :
    let s (now : Nat) := ((withTracker .acquire (some 0) (withPhase 50000 State.reset)).setTimer
      { State.reset.timer with phase := 50000, offered := true, shadow := { Timing.reset with period := 46000 } }).setNow now
    (after .frameBoundary (s 46500)).tracker.reference = some 0 ∧
      (after .frameBoundary (s 46501)).tracker.reference = none ∧
      (after .frameBoundary (s 46501)).timer.active.period = 46000 ∧
      (withHold State.reset).sealing.holdCount + 1 < (withHold State.reset).sealing.holdLimit ∧
      ({ State.reset.sealing with hold := .held, holdCount := 3 } : SealControl).holdLimit ≤ 3 + 1 ∧
      ({ Timing.reset with sealPhase := 0 } : Timing).sealPhase = 0 ∧
      State.reset.timer.offered = false ∧ State.reset.timer.phase ≠ State.reset.timer.active.sealPhase := by decide

/-- In ACQUIRE: no reference, the edges of the tolerance, and the count before N_ACQ. -/
theorem test_witness_SyncEdgeInFreeAndAcquire :
    let s := withTracker .acquire (some 0) State.reset
    s.tracker.state = .acquire ∧ s.tracker.reference = some 0 ∧ (withTracker .acquire none State.reset).tracker.reference = none ∧
      Within (50050 - 0) s.timer.active.period s.tracker.tolNarrow ∧
      ¬Within (50051 - 0) s.timer.active.period s.tracker.tolNarrow ∧
      Within (49500 - 0) s.timer.active.period s.tracker.tolWide ∧
      ¬Within (49499 - 0) s.timer.active.period s.tracker.tolWide ∧
      s.tracker.goodCount + 1 ≠ s.tracker.nAcq ∧ ({ s.tracker with goodCount := 3 } : Tracker).goodCount + 1 = s.tracker.nAcq ∧
      State.reset.tracker.state = .free := by decide

theorem test_witness_SyncEdgeInTrackAndLocked :
    let s := withTracker .track (some 0) State.reset
    s.tracker.state = .track ∧ s.tracker.reference = some 0 ∧ (withTracker .locked (some 0) s).tracker.state = .locked ∧
      s.tracker.lockCount + 1 ≠ s.tracker.nLock ∧ ({ s.tracker with lockCount := 31 } : Tracker).lockCount + 1 = s.tracker.nLock ∧
      Within 49950 s.timer.active.period s.tracker.tolNarrow ∧
      (¬Within 50500 s.timer.active.period s.tracker.tolNarrow ∧ Within 50500 s.timer.active.period s.tracker.tolWide) ∧
      (¬Within 49499 s.timer.active.period s.tracker.tolWide ∧ 49499 < s.timer.active.period) ∧
      (¬Within 50501 s.timer.active.period s.tracker.tolWide ∧ s.timer.active.period ≤ 50501) := by decide

/-- The edge that brings LOCKED opens a gate of LOCKED_ONLY: the owed seal is taken, under the new state (R108). -/
theorem test_witness_SyncEdgeInTrackAndLocked_opens_the_gate :
    let s := ((withTracker .track (some 0) (withOpen 1 State.reset)).setTracker
      { (withTracker .track (some 0) State.reset).tracker with lockCount := 31, gate := .lockedOnly }).setNow 50000
    let t := after .syncEdge (s.setTimer { s.timer with phase := 50000, offered := true })
    t.tracker.state = .locked ∧ t.store.sealedGen.isSome = false ∧
      ((after .syncEdge ((s.setTimer { s.timer with phase := 50000, offered := true }).setSealing
        { s.sealing with owed := true })).store.sealedGen.map fun g => (g.cause, g.tracker)) =
          some (.owed, .locked) := by decide

/-- The phases at which an edge in HOLDOVER is a boundary, is ignored, and realigns, with Plast 50,000. -/
theorem test_witness_SyncEdgeInHoldover :
    let s (phase : Nat) := withPhase phase ((withTracker .holdover (some 0) State.reset).setTracker
      { (withTracker .holdover (some 0) State.reset).tracker with plast := 50000 })
    (s 0).tracker.state = .holdover ∧ (s 0).tracker.reference = some 0 ∧
      (s 49500).tracker.plast ≤ (s 49500).timer.phase + (s 49500).tracker.tolWide ∧
      (s 49499).timer.phase + (s 49499).tracker.tolWide < (s 49499).tracker.plast ∧
      (s 501).tracker.tolWide < (s 501).timer.phase ∧ (s 500).timer.phase ≤ (s 500).tracker.tolWide := by decide

theorem test_witness_MissingSyncPoint :
    let s := (withTracker .track (some 0) State.reset).setNow 50500
    s.tracker.reference = some 0 ∧ 0 + s.timer.active.period + s.tracker.tolWide ≤ s.now ∧
      (s.setNow 50499).now < 0 + s.timer.active.period + s.tracker.tolWide ∧ s.tracker.state = .track ∧
      0 < s.tracker.holdoverLimit ∧ (withTracker .acquire (some 0) s).tracker.state = .acquire := by decide

/-! ### Witnesses: resets -/

theorem test_witness_SrstnEdges :
    State.reset.srstn = .high ∧ State.reset.store.openBody = none ∧ (withOpen 1 State.reset).store.openBody ≠ none ∧
      (assertReset State.reset).srstn = .low ∧ (assertReset State.reset).store.sealedGen = none ∧
      (assertReset State.reset).uport.isOpen = false ∧ (assertReset State.reset).sealing.owed = false ∧
      (assertReset State.reset).sealing.commitNow = false ∧ (assertReset atWork).store.sealedGen ≠ none := by decide

/-! ### Witnesses: management framing commands -/

/-- Every receiver state within a frame, and MCSn high. -/
theorem test_witness_FrameStartAndEnd :
    State.reset.management.mcsn = .high ∧
      ∀ x ∈ [RxState.idle, .awaitCode, .params, .awaitCrc, .done, .discard],
        (withRx x State.reset).management.mcsn = .low ∧ (withRx x State.reset).management.rx = x := by decide

theorem test_witness_ReceiverBytes :
    let s := withRx .params (State.reset.setManagement { State.reset.management with buffer := [0x02#8, 0#8] })
    paramCount 0x00#8 = some 0 ∧ paramCount 0x02#8 = some 6 ∧ paramCount 0x05#8 = none ∧
      paramCount 0x11#8 = none ∧ s.management.rx = .params ∧ s.management.buffer = 0x02#8 :: [0#8] ∧
      (withRx .awaitCode s).management.rx = .awaitCode ∧ (withRx .awaitCrc s).management.rx = .awaitCrc ∧
      0x01#8 ≠ crc8 (awaiting .nop State.reset).management.buffer ∧
      0x00#8 = crc8 (awaiting .nop State.reset).management.buffer ∧
      (after .frameStart State.reset).management.outgoing ≠ none := by decide

/-! ### Witnesses: management commands -/

/-- Every management command is awaited in the state built for it. -/
theorem test_witness_Awaits :
    ∀ i ∈ [Instr.nop, .readItem 0x00F0#16 5#8, .writeItem 0x00E0#16 255#32, .shadowWindowWrite 15 .enable 1#32,
        .shadowTimingWrite .deadline 1#32, .trackerParameterWrite .tolWide 65535#32, .trackEnEnable, .trackEnDisable] ++
      [.gateWrite 2#32, .enableSetWrite 0xFFFF#32, .readRecord, .ackAttn 0xFFFF#32, .hold, .release, .commitNow,
        .abortOpen, .applyTable, .cancelApply, .clearFault 15#8, .queryWord 0xFFFFFFFF#32],
      Awaits (awaiting i State.reset) i := by decide

/-- Counts 0, 1, 8 and 9; an item that does not exist within the run, and past FFFFh; a word with both entries. -/
theorem test_witness_ReadingCommands :
    commandBytes .nop ≠ none ∧ ¬Awaits State.reset .nop ∧ (0#8).toNat = 0 ∧ 8 < (9#8).toNat ∧ 1 ≤ (1#8).toNat ∧
      (8#8).toNat ≤ 8 ∧ itemOfNumber (0x00B0 + 3) = none ∧ itemOfNumber (0xFFFF + 1) = none ∧
      (List.range 2).map (fun k => itemOfNumber (0x0120 + k)) = [Item.recordsUnread, .recordsHeld].map some ∧
      lookupSealed atWork.store 0x1800#32 = some (sealedEntry 0 .inFlight 0) ∧
      lookupSealed atWork.store 0x1000#32 = none := by decide

/-- Counts within their bounds, and a value of each item that holds several fields. -/
theorem test_witness_ReadingCommands_fields :
    let c : SealControl :=
      { hold := .held, holdCount := 255, expired := false, owed := true, commitNow := true, holdLimit := 255,
        lateSeal := .nextPoint }
    let refused : State :=
      State.reset.setWindows { State.reset.windows with applyState := .armed, lastOutcome := .refusedOverlap 15 }
    openCountOf atWork.store 0 ≤ 512 ∧ sealedCountOf atWork.store 0 ≤ 512 ∧
      itemValue atWork (.windowCounts 0) = 0x00010002#32 ∧
      itemValue (State.reset.setSealing c) .sealState = 0x0006FF01#32 ∧
      itemValue refused .applyOutcome = 0x000F0301#32 ∧
      itemValue (State.reset.setTracker { State.reset.tracker with goodCount := 15, lockCount := 255 }) .goodAndLock =
        0x00000FFF#32 := by decide

/-- The items without rows of their own at the edges of their ranges, a read-only item, and none. -/
theorem test_witness_WriteItem :
    (∀ i ∈ [Instr.writeItem 0x00E0#16 1#32, .writeItem 0x00E0#16 256#32, .writeItem 0x00E1#16 2#32,
        .writeItem 0x0100#16 65535#32, .writeItem 0x0101#16 0#32, .writeItem 0x0102#16 3#32,
        .writeItem 0x0103#16 16#32, .writeItem 0x00C0#16 2#32, .writeItem 0x0000#16 0#32],
      Awaits (awaiting i State.reset) i) ∧
      itemOfNumber 0x0000 = some .deviceId ∧ itemOfNumber 0x008F = some (.activeWindow 15 .enable) ∧
      itemOfNumber 0x00AF = some (.windowCounts 15) ∧ itemOfNumber 0x00B6 = some (.activeTiming .deadline) ∧
      itemOfNumber 0x00C7 = none := by decide

/-- ARMED and IDLE; a policy code 3; a TRACK_EN of 1 and of 0; values at the edges of the ranges. -/
theorem test_witness_TableTimingAndParameterWrites :
    (withArmed State.reset).windows.applyState = .armed ∧ State.reset.windows.applyState = .idle ∧
      (0xFFFFF000#32).toNat % 4096 = 0 ∧ (0x00000102#32).toNat = policyCode .spill + viewCode .committed ∧
      (∀ p ∈ [Policy.stall, .reject, .spill], ∀ v ∈ [View.latest, .committed],
        (0x00000003#32).toNat ≠ policyCode p + viewCode v) ∧
      256 ≤ (0x00000100#32).toNat ∧ (0x00FFFFFF#32).toNat ≤ 16777215 ∧ (0x00FFFFFE#32).toNat ≤ 16777214 ∧
      (withTracker .track none State.reset).tracker.trackEn = true ∧ State.reset.tracker.trackEn = false ∧
      (500#32).toNat ≤ State.reset.tracker.tolWide ∧ State.reset.tracker.tolNarrow ≤ (50#32).toNat := by decide

/-- The conditions of an enable hold and fail; a disable below PERIOD and at it; a gate that opens. -/
theorem test_witness_TrackerEnableAndGate :
    let wide := State.reset.setTracker { State.reset.tracker with tolWide := 25000 }
    let shut := State.reset.setTracker { State.reset.tracker with gate := .lockedOnly }
    (State.reset.tracker.trackEn = false ∧ State.reset.tracker.state = .free ∧
      2 * State.reset.tracker.tolWide < State.reset.timer.active.period) ∧
      ¬2 * wide.tracker.tolWide < wide.timer.active.period ∧
      (withPhase 49999 tracking).timer.phase < tracking.timer.active.period ∧ tracking.tracker.trackEn = true ∧
      tracking.timer.active.period ≤ (withPhase 50000 tracking).timer.phase ∧
      gateOpen shut = false ∧ gateOpen (shut.setTracker { shut.tracker with gate := .any }) = true ∧
      (2#32).toNat = gateCode .lockedOrHoldover ∧ 2 < (3#32).toNat := by decide

/-- An enable at the phase PERIOD takes no boundary and leaves it due (R105; assumption log 25). -/
theorem test_enable_leaves_the_boundary_due :
    let s := withPhase 50000 (awaiting .trackEnEnable State.reset)
    let t := after .trackEnEnable s
    t.tracker.state = .acquire ∧ t.timer.phase = 50000 ∧ t.timer.frame = s.timer.frame ∧ boundaryDue t = true := by
  decide

theorem test_witness_EnableSetAndAcknowledge : (0xFFFF#32).toNat < 65536 ∧ 65536 ≤ (0x10000#32).toNat := by decide

/-- A read record in front of an unread one, and none unread. -/
theorem test_witness_ReadRecordReturnsTheOldestUnread :
    let s := State.reset.setRing [{ record := aRecord, isRead := true }, { record := aRecord, isRead := false }]
    s.ring = [{ record := aRecord, isRead := true }] ++ { record := aRecord, isRead := false } :: [] ∧
      (∀ x ∈ [({ record := aRecord, isRead := true } : RingEntry)], x.isRead = true) ∧
      Awaits (awaiting .readRecord s) .readRecord ∧ ∀ e ∈ State.reset.ring, e.isRead = true := by decide

/-- The two kinds of record: with the seal fields and without them. -/
theorem test_witness_ReadRecordReturnsTheOldestUnread_layout :
    aRecord.sealFields.isSome = true ∧ (recordBytes aRecord).drop 44 = bytes32 100#32 ∧
      (recordBytes { aRecord with outcome := .aborted, sealFields := none }).drop 36 = List.replicate 12 0#8 := by decide

theorem test_witness_HoldAndRelease :
    State.reset.sealing.hold = .notHeld ∧ (withHold State.reset).sealing.hold = .held ∧
      State.reset.sealing.expired = false ∧ Awaits (awaiting .release (withHold State.reset)) .release ∧
      (expireHold (withHold State.reset)).sealing.expired = true := by decide

/-- Permission with an open generation and without one, no permission while a generation drains, a flag already set. -/
theorem test_witness_CommitNowAndAbortOpen :
    commandPermission (withOpen 1 State.reset) = true ∧ openEntries (withOpen 1 State.reset).store ≠ [] ∧
      openEntries State.reset.store = [] ∧ commandPermission atWork = false ∧
      (State.reset.setSealing { State.reset.sealing with commitNow := true }).sealing.commitNow = true ∧
      (withStall none atWork).uport.stall = some { due := none } ∧
      takingHead (withStall none atWork).uport = some (waitingEntry 0 (writeWord 0x1008#32)) := by decide

/-- ABORT_OPEN of a full store answers 512, the number of entries discarded (R135). -/
theorem test_abort_of_512_entries :
    replyOf .abortOpen (withOpen 512 State.reset) = some [0x00#8, 0x02#8, 0x00#8] := by decide +kernel

theorem test_witness_ApplyCancelAndClearFault :
    State.reset.windows.applyState = .idle ∧ (withArmed State.reset).windows.applyState = .armed ∧
      (15#8).toNat < 16 ∧ 16 ≤ (16#8).toNat ∧
      replyOf (.clearFault 15#8) State.reset = some [0x00#8] := by decide

end Sys2Proof.Tests
end

/-! SUPPORT. Management commands by what their action answers, bits that stand for one flag or one window, the
classification by a table without an enabled window, and the settled statements about the address windows. -/

namespace Sys2Proof.Machine

/-! ### Management commands (R172, R177) -/

theorem awaitsCommand_of_awaits {s : State} {i : Instr} (h : Awaits s i) : awaitsCommand s i = true := by
  obtain ⟨hrx, hbuffer⟩ := h
  simp [awaitsCommand, hrx, hbuffer]

/-- An awaited management command answers what its action answers, as the statements write it. -/
theorem runCommand_of_awaits {s t : State} {i : Instr} {act : State → State × Option (List Byte)}
    {r : Option (List Byte)} (h : Awaits s i) (hact : act s = (t, r)) :
    runCommand i act s = .next (replied t r) := by
  rw [runCommand_runs i act s (awaitsCommand_of_awaits h), hact]
  rfl

@[simp] theorem reply_ok (s : State) : reply s .ok = (s, some [0x00#8]) := rfl
@[simp] theorem reply_nakRange (s : State) : reply s .nakRange = (s, some [0x04#8]) := rfl
@[simp] theorem reply_nakArmed (s : State) : reply s .nakArmed = (s, some [0x06#8]) := rfl
@[simp] theorem reply_notArmed (s : State) : reply s .notArmed = (s, some [0x16#8]) := rfl

/-! ### Bits that stand for a flag or a window -/

theorem flagCode_le_one (b : Bool) : flagCode b ≤ 1 := by
  cases b <;> decide

/-- A flag is read back at the position at which its code stands in a sum of flags. -/
theorem getLsbD_ofNat_of_flagCode {width k n : Nat} {b : Bool} (hk : k < width)
    (h : n / 2 ^ k % 2 = flagCode b) : (BitVec.ofNat width n).getLsbD k = b := by
  rw [BitVec.getLsbD_ofNat, Nat.testBit_eq_decide_div_mod_eq, h]
  cases b <;> simp [hk, flagCode]

theorem applyArmed_iff (s : State) : applyArmed s = true ↔ s.windows.applyState = .armed := by
  simp [applyArmed]

/-- The apply flag stands at bit 3 of the status byte (R178). -/
theorem statusByte_applyFlag (s : State) : (statusByte s).getLsbD 3 = applyArmed s := by
  refine getLsbD_ofNat_of_flagCode (by decide) ?_
  have hApply := flagCode_le_one (applyArmed s)
  have hFrameError := flagCode_le_one s.management.lastFrameError
  have hClosed := flagCode_le_one (!s.uport.isOpen)
  omega

/-- The set with the bit of one number holds that window only. -/
theorem getLsbD_ofNat_two_pow (n : Nat) (w : Window) :
    (BitVec.ofNat 16 (2 ^ n)).getLsbD w.val = decide (n = w.val) := by
  rw [BitVec.getLsbD_ofNat, Nat.testBit_two_pow, decide_eq_true w.isLt, Bool.true_and]

theorem getLsbD_without_bit (set : Half) (n : Nat) (w : Window) :
    (set &&& ~~~BitVec.ofNat 16 (2 ^ n)).getLsbD w.val = (set.getLsbD w.val && !decide (n = w.val)) := by
  rw [BitVec.getLsbD_and, BitVec.getLsbD_not, getLsbD_ofNat_two_pow, decide_eq_true w.isLt, Bool.true_and]

/-! ### Run states (R39, R41) -/

theorem runStateOf_of_no_fault {t : WindowTable} (h : t.faultSet = 0#16) (w : Window) :
    runStateOf t w = .normal := by
  simp [runStateOf, h]

/-- Taking the bit of one index out of the fault set makes its run state NORMAL and leaves the others. -/
theorem runStateOf_clear (t : WindowTable) (n : Nat) (w : Window) :
    runStateOf { t with faultSet := t.faultSet &&& ~~~BitVec.ofNat 16 (2 ^ n) } w =
      if w.val = n then .normal else runStateOf t w := by
  simp only [runStateOf, getLsbD_without_bit]
  by_cases hw : w.val = n
  · simp [hw]
  · simp [hw, Ne.symm hw]

/-! ### Classification without an enabled window (R26, R42) -/

theorem covers_of_disabled {d : Descriptor} (h : d.enable = false) (a : Word) : covers d a = false := by
  simp [covers, h]

/-- "With every window disabled, every request is classified pass-through" (R42). -/
theorem classify_of_disabled {t : WindowTable} (h : ∀ w, (descriptorOf t.active w).enable = false) (a : Word) :
    classify t a = .passThrough := by
  have hnone : (windowIndices.find? fun w => covers (descriptorOf t.active w) a) = none :=
    List.find?_eq_none.mpr fun w _ => by simp [covers_of_disabled (h w)]
  simp [classify, hnone]

/-- Every index of a table of power-on descriptors, within the list or past it, has the power-on descriptor. -/
theorem descriptorOf_replicate_reset (n : Nat) (w : Window) :
    descriptorOf (List.replicate n Descriptor.reset) w = Descriptor.reset := by
  by_cases hw : w.val < n
  · simp [descriptorOf, hw]
  · simp [descriptorOf, hw]

/-! ### Power-on reset (R42) -/

/-- POWER_ON_RESET answers a state whose Window Table is the power-on one. -/
theorem exec_powerOnReset_windows (srstn mcsn : Level) (s : State) :
    ∃ t, exec (.powerOnReset srstn mcsn) s = .next t ∧ t.windows = State.reset.windows :=
  ⟨_, rfl, rfl⟩

theorem reset_tables_hold_reset_descriptors {d : Descriptor}
    (h : d ∈ State.reset.windows.active ∨ d ∈ State.reset.windows.shadow) : d = Descriptor.reset :=
  h.elim List.eq_of_mem_replicate List.eq_of_mem_replicate

/-- Settles O7: the table is the power-on one, in which no window is enabled and no index faulted. -/
theorem powerOnWindowTable : Obligations.PowerOnWindowTable := by
  intro srstn mcsn s
  obtain ⟨t, hexec, hwindows⟩ := exec_powerOnReset_windows srstn mcsn s
  refine ⟨t, hexec, ?_⟩
  rw [hwindows]
  refine ⟨rfl, rfl, ?_, rfl, rfl, ?_, rfl, ?_⟩
  · intro d hd
    obtain rfl := reset_tables_hold_reset_descriptors hd
    exact ⟨rfl, rfl, rfl, rfl, rfl⟩
  · exact runStateOf_of_no_fault rfl
  · refine classify_of_disabled fun w => ?_
    exact congrArg Descriptor.enable (descriptorOf_replicate_reset 16 w)

/-! ### APPLY_TABLE, CANCEL_APPLY and CLEAR_FAULT (R31, R32, R41) -/

theorem exec_applyTable_idle {s : State} (h : Awaits s .applyTable) (idle : s.windows.applyState = .idle) :
    exec .applyTable s = .next
      (replied (s.setWindows { s.windows with applyState := .armed }) (some [0x00#8])) :=
  runCommand_of_awaits h (by simp [armApply, idle])

theorem exec_applyTable_armed {s : State} (h : Awaits s .applyTable) (armed : s.windows.applyState = .armed) :
    exec .applyTable s = .next (replied s (some [0x06#8])) :=
  runCommand_of_awaits h (by simp [armApply, armed])

theorem exec_cancelApply_armed {s : State} (h : Awaits s .cancelApply) (armed : s.windows.applyState = .armed) :
    exec .cancelApply s = .next
      (replied (s.setWindows { s.windows with applyState := .idle, lastOutcome := .cancelled })
        (some [0x00#8])) :=
  runCommand_of_awaits h (by simp [cancelApply, armed])

theorem exec_cancelApply_idle {s : State} (h : Awaits s .cancelApply) (idle : s.windows.applyState = .idle) :
    exec .cancelApply s = .next (replied s (some [0x16#8])) :=
  runCommand_of_awaits h (by simp [cancelApply, idle])

theorem exec_clearFault_of_lt {s : State} {index : Byte} (h : Awaits s (.clearFault index))
    (hlt : index.toNat < 16) :
    exec (.clearFault index) s = .next
      (replied (s.setWindows
        { s.windows with faultSet := s.windows.faultSet &&& ~~~BitVec.ofNat 16 (2 ^ index.toNat) })
        (some [0x00#8])) :=
  runCommand_of_awaits h (by simp [clearFault, hlt])

theorem exec_clearFault_of_ge {s : State} {index : Byte} (h : Awaits s (.clearFault index))
    (hge : 16 ≤ index.toNat) : exec (.clearFault index) s = .next (replied s (some [0x04#8])) :=
  runCommand_of_awaits h (by simp [clearFault, Nat.not_lt.mpr hge])

/-- Settles O60: one lemma for each command and apply state, or range of the index; the cleared set is the fault set
without the bit of the index. -/
theorem applyCancelAndClearFault : Obligations.ApplyCancelAndClearFault := by
  intro s
  refine ⟨?apply, ?flag, ?cancel, ?clear⟩
  case apply => exact fun h => ⟨exec_applyTable_idle h, exec_applyTable_armed h⟩
  case flag => rw [statusByte_applyFlag, applyArmed_iff]
  case cancel => exact fun h => ⟨exec_cancelApply_armed h, exec_cancelApply_idle h⟩
  case clear =>
    intro index h
    refine ⟨fun hlt => ?_, exec_clearFault_of_ge h⟩
    exact ⟨_, exec_clearFault_of_lt h hlt, runStateOf_clear s.windows index.toNat⟩

end Sys2Proof.Machine

/-! SUPPORT. The hold of the Seal Controller: what a seal and a permission-return moment leave of it, its flag in the status
byte, HOLD and RELEASE by hold state, and the settled statement about them. -/

namespace Sys2Proof.Machine

/-! ### The Seal Controller at a seal and at a permission-return moment (R124, R129) -/

/-- The Seal Controller with the owed-seal and the commit-now flag clear: the part of it that a seal leaves. -/
def withoutSealFlags (c : SealControl) : SealControl :=
  { c with owed := false, commitNow := false }

/-- That part is everything but the two flags. -/
theorem withoutSealFlags_eq_iff (c d : SealControl) :
    withoutSealFlags c = withoutSealFlags d ↔
      c.hold = d.hold ∧ c.holdCount = d.holdCount ∧ c.expired = d.expired ∧ c.holdLimit = d.holdLimit ∧
        c.lateSeal = d.lateSeal := by
  simp [withoutSealFlags]

@[simp] theorem withoutSealFlags_of_flags (c : SealControl) (owed commitNow : Bool) :
    withoutSealFlags { c with owed := owed, commitNow := commitNow } = withoutSealFlags c := rfl

@[simp] theorem clearOwed_withoutSealFlags (s : State) :
    withoutSealFlags (clearOwed s).sealing = withoutSealFlags s.sealing := rfl

@[simp] theorem clearSealFlags_withoutSealFlags (c : SealCause) (s : State) :
    withoutSealFlags (clearSealFlags c s).sealing = withoutSealFlags s.sealing := rfl

/-- Store, drain and apply are not the Seal Controller's: of the steps of a seal only the last reaches it. -/
@[simp] theorem takeSeal_withoutSealFlags (c : SealCause) (t : Stamp) (s : State) :
    withoutSealFlags (takeSeal c t s).sealing = withoutSealFlags s.sealing := by
  rw [takeSeal, clearSealFlags_withoutSealFlags]
  split <;> simp

@[simp] theorem takeEmptyPoint_withoutSealFlags (s : State) :
    withoutSealFlags (takeEmptyPoint s).sealing = withoutSealFlags s.sealing := by
  rw [takeEmptyPoint, clearOwed_withoutSealFlags]
  split <;> simp

@[simp] theorem takeOwedSeal_withoutSealFlags (s : State) :
    withoutSealFlags (takeOwedSeal s).sealing = withoutSealFlags s.sealing := by
  unfold takeOwedSeal
  split <;> simp

@[simp] theorem takeCommitNow_withoutSealFlags (s : State) :
    withoutSealFlags (takeCommitNow s).sealing = withoutSealFlags s.sealing := by
  unfold takeCommitNow
  split <;> simp

@[simp] theorem returnOwed_withoutSealFlags (s : State) :
    withoutSealFlags (returnOwed s).sealing = withoutSealFlags s.sealing := by
  unfold returnOwed
  split <;> simp

@[simp] theorem returnCommitNow_withoutSealFlags (s : State) :
    withoutSealFlags (returnCommitNow s).sealing = withoutSealFlags s.sealing := by
  unfold returnCommitNow
  split <;> simp

/-- Both steps of R129 reach the two flags only. -/
@[simp] theorem permissionReturn_keeps_hold (s : State) :
    (permissionReturn s).sealing.hold = s.sealing.hold ∧
      (permissionReturn s).sealing.holdCount = s.sealing.holdCount ∧
      (permissionReturn s).sealing.expired = s.sealing.expired ∧
      (permissionReturn s).sealing.holdLimit = s.sealing.holdLimit ∧
      (permissionReturn s).sealing.lateSeal = s.sealing.lateSeal := by
  rw [← withoutSealFlags_eq_iff]
  simp [permissionReturn]

/-! ### The hold at a frame boundary (R133) -/

/-- An expiry ends the hold and sets the expired flag; the hold frame count stays. -/
theorem expireHold_hold (s : State) :
    (expireHold s).sealing.hold = .notHeld ∧
      (expireHold s).sealing.expired = true ∧
      (expireHold s).sealing.holdCount = s.sealing.holdCount := by
  simp [expireHold]

/-- "While the hold state is HELD": a boundary in NONE counts nothing. -/
theorem reportBoundary_of_notHeld {s : State} (h : s.sealing.hold = .notHeld) : reportBoundary s = s := by
  simp [reportBoundary, h]

/-! ### The hold flag of the status byte (R132, R178) -/

/-- The hold flag stands at bit 6 of the status byte. -/
theorem statusByte_holdFlag (s : State) : (statusByte s).getLsbD 6 = (s.sealing.hold == .held) := by
  refine getLsbD_ofNat_of_flagCode (by decide) ?_
  have hHold := flagCode_le_one (s.sealing.hold == .held)
  have hLocked := flagCode_le_one (s.tracker.state == .locked)
  have hSealed := flagCode_le_one s.store.sealedGen.isSome
  have hApply := flagCode_le_one (applyArmed s)
  have hFrameError := flagCode_le_one s.management.lastFrameError
  have hClosed := flagCode_le_one (!s.uport.isOpen)
  omega

/-! ### HOLD and RELEASE (R132, R134) -/

@[simp] theorem reply_alreadyHeld (s : State) : reply s .alreadyHeld = (s, some [0x11#8]) := rfl
@[simp] theorem reply_notHeld (s : State) : reply s .notHeld = (s, some [0x12#8]) := rfl
@[simp] theorem reply_expired (s : State) : reply s .expired = (s, some [0x13#8]) := rfl

theorem exec_hold_notHeld {s : State} (h : Awaits s .hold) (noHold : s.sealing.hold = .notHeld) :
    exec .hold s = .next
      (replied (s.setSealing { s.sealing with hold := .held, holdCount := 0, expired := false })
        (some [0x00#8])) :=
  runCommand_of_awaits h (by simp [holdSeals, noHold])

theorem exec_hold_held {s : State} (h : Awaits s .hold) (held : s.sealing.hold = .held) :
    exec .hold s = .next (replied s (some [0x11#8])) :=
  runCommand_of_awaits h (by simp [holdSeals, held])

theorem exec_release_held {s : State} (h : Awaits s .release) (held : s.sealing.hold = .held) :
    exec .release s = .next
      (replied (permissionReturn (s.setSealing { s.sealing with hold := .notHeld, holdCount := 0 }))
        (some [0x00#8])) :=
  runCommand_of_awaits h (by simp [releaseSeals, held])

theorem exec_release_expired {s : State} (h : Awaits s .release) (noHold : s.sealing.hold = .notHeld)
    (expired : s.sealing.expired = true) :
    exec .release s = .next (replied (s.setSealing { s.sealing with expired := false }) (some [0x13#8])) :=
  runCommand_of_awaits h (by simp [releaseSeals, noHold, expired])

theorem exec_release_notHeld {s : State} (h : Awaits s .release) (noHold : s.sealing.hold = .notHeld)
    (unexpired : s.sealing.expired = false) :
    exec .release s = .next (replied s (some [0x12#8])) :=
  runCommand_of_awaits h (by simp [releaseSeals, noHold, unexpired])

/-- Settles O58: one lemma for each command and hold state; the count outlives an expiry because the permission-return
moment that ends it reaches the owed-seal and commit-now flags only. -/
theorem holdAndRelease : Obligations.HoldAndRelease := by
  intro s
  refine ⟨?hold, ?flag, ?release, reportBoundary_of_notHeld, ?expiry⟩
  case hold => exact fun h => ⟨exec_hold_notHeld h, exec_hold_held h⟩
  case flag => rw [statusByte_holdFlag, beq_iff_eq]
  case release => exact fun h => ⟨exec_release_held h, exec_release_expired h, exec_release_notHeld h⟩
  case expiry =>
    obtain ⟨-, -, hcount⟩ := expireHold_hold s
    exact hcount

end Sys2Proof.Machine

/-! SUPPORT. The Attention Unit: a cause set by its members, the three operations on the two sets as the statements write
them, ENABLE_SET_WRITE and ACK_ATTN by the range of their operand, and the settled statements about them. -/

namespace Sys2Proof.Machine

/-! ### Cause positions (section 10.9) -/

theorem causePosition_lt (c : Cause) : causePosition c < 16 := by
  cases c <;> decide

/-- The positions count the causes in the order of section 9.2. -/
theorem ofNat_causePosition (c : Cause) : Cause.ofNat (causePosition c) = c := by
  cases c <;> rfl

/-- No position of a 16-bit set is left without a cause. -/
theorem causePosition_ofNat : ∀ i : Fin 16, causePosition (Cause.ofNat i) = i := by decide

theorem causePosition_injective : Function.Injective causePosition :=
  Function.LeftInverse.injective ofNat_causePosition

/-! ### A cause set by its members (R155) -/

/-- Two sets with the same members are equal. -/
theorem causeSet_ext {a b : Half} (h : ∀ c, inCauseSet a c = inCauseSet b c) : a = b := by
  refine BitVec.eq_of_getLsbD_eq fun i hi => ?_
  have hbit := h (Cause.ofNat i)
  have hpos : causePosition (Cause.ofNat i) = i := causePosition_ofNat ⟨i, hi⟩
  simpa only [inCauseSet, hpos] using hbit

@[simp] theorem inCauseSet_or (a b : Half) (c : Cause) :
    inCauseSet (a ||| b) c = (inCauseSet a c || inCauseSet b c) :=
  BitVec.getLsbD_or

/-- A set without the members of another. -/
@[simp] theorem inCauseSet_and_not (a b : Half) (c : Cause) :
    inCauseSet (a &&& ~~~b) c = (inCauseSet a c && !inCauseSet b c) := by
  simp [inCauseSet, causePosition_lt c]

@[simp] theorem inCauseSet_causeBit (c d : Cause) : inCauseSet (causeBit c) d = (d == c) := by
  have hbit : inCauseSet (causeBit c) d = decide (causePosition c = causePosition d) :=
    getLsbD_ofNat_two_pow (causePosition c) ⟨causePosition d, causePosition_lt d⟩
  rw [hbit, Bool.beq_eq_decide_eq, decide_eq_decide, causePosition_injective.eq_iff, eq_comm]

/-- A cause already in the set leaves it unchanged (R156). -/
theorem or_causeBit_of_mem {set : Half} {c : Cause} (h : inCauseSet set c = true) : set ||| causeBit c = set := by
  refine causeSet_ext fun d => ?_
  rw [inCauseSet_or, inCauseSet_causeBit]
  by_cases hd : d = c
  · simp [hd, h]
  · simp [hd]

/-! ### The operations of the Attention Unit (R156 to R158, R160) -/

theorem raiseCause_eq (c : Cause) (s : State) :
    raiseCause c s = s.setAttention
      { causes := s.attention.causes ||| causeBit c
        enabled := s.attention.enabled
        asserted := (s.attention.causes ||| causeBit c) &&& s.attention.enabled != 0#16 } := rfl

theorem acknowledgeCauses_eq (mask : Half) (s : State) :
    acknowledgeCauses mask s = s.setAttention
      { causes := s.attention.causes &&& ~~~mask
        enabled := s.attention.enabled
        asserted := (s.attention.causes &&& ~~~mask) &&& s.attention.enabled != 0#16 } := rfl

theorem replaceEnableSet_eq (set : Half) (s : State) :
    replaceEnableSet set s = s.setAttention
      { causes := s.attention.causes
        enabled := set
        asserted := s.attention.causes &&& set != 0#16 } := rfl

/-- Two raises leave one Attention Unit with both causes in it: what the first wrote of it, the second writes again. -/
theorem raiseCause_raiseCause (c d : Cause) (s : State) :
    raiseCause c (raiseCause d s) = s.setAttention
      (reevaluate { s.attention with causes := s.attention.causes ||| causeBit d ||| causeBit c }) := rfl

/-- "The order in which they reach the unit does not change the resulting cause set" (R156). -/
theorem raiseCause_comm (c d : Cause) (s : State) :
    raiseCause c (raiseCause d s) = raiseCause d (raiseCause c s) := by
  have hset : s.attention.causes ||| causeBit d ||| causeBit c = s.attention.causes ||| causeBit c ||| causeBit d := by
    rw [BitVec.or_assoc, BitVec.or_comm (causeBit d), ← BitVec.or_assoc]
  rw [raiseCause_raiseCause, raiseCause_raiseCause, hset]

/-- Settles O39: the new set is the old one with the bit of the cause, and its members are read off bit by bit. -/
theorem raiseAddsOneCause : Obligations.RaiseAddsOneCause := by
  intro c s
  refine ⟨⟨_, raiseCause_eq c s, fun d => ?members⟩, fun h => ?again, fun d => raiseCause_comm c d s⟩
  case members => rw [inCauseSet_or, inCauseSet_causeBit]
  case again =>
    rw [raiseCause_eq, State.setAttention_attention]
    exact or_causeBit_of_mem h

/-! ### ENABLE_SET_WRITE and ACK_ATTN (R158, R160) -/

@[simp] theorem withCode_ok (s : State) : withCode (s, .ok) = (s, some [0x00#8]) := rfl
@[simp] theorem withCode_nakRange (s : State) : withCode (s, .nakRange) = (s, some [0x04#8]) := rfl

theorem writeEnableSet_of_lt {v : Word} (s : State) (hlt : v.toNat < 65536) :
    writeEnableSet v s = (replaceEnableSet (v.setWidth 16) s, .ok) :=
  if_pos hlt

theorem writeEnableSet_of_ge {v : Word} (s : State) (hge : 65536 ≤ v.toNat) : writeEnableSet v s = (s, .nakRange) :=
  if_neg (Nat.not_lt.mpr hge)

theorem exec_enableSetWrite (v : Word) (s : State) :
    exec (.enableSetWrite v) s =
      runCommand (.enableSetWrite v) (fun t => withCode (writeEnableSet v t)) s := rfl

theorem exec_enableSetWrite_of_lt {s : State} {v : Word} (h : Awaits s (.enableSetWrite v)) (hlt : v.toNat < 65536) :
    exec (.enableSetWrite v) s = .next (replied (replaceEnableSet (v.setWidth 16) s) (some [0x00#8])) := by
  rw [exec_enableSetWrite]
  exact runCommand_of_awaits h (by rw [writeEnableSet_of_lt s hlt, withCode_ok])

theorem exec_enableSetWrite_of_ge {s : State} {v : Word} (h : Awaits s (.enableSetWrite v)) (hge : 65536 ≤ v.toNat) :
    exec (.enableSetWrite v) s = .next (replied s (some [0x04#8])) := by
  rw [exec_enableSetWrite]
  exact runCommand_of_awaits h (by rw [writeEnableSet_of_ge s hge, withCode_nakRange])

theorem exec_ackAttn_of_lt {s : State} {mask : Word} (h : Awaits s (.ackAttn mask)) (hlt : mask.toNat < 65536) :
    exec (.ackAttn mask) s = .next (replied (acknowledgeCauses (mask.setWidth 16) s) (some [0x00#8])) :=
  runCommand_of_awaits h (by rw [ackAttention, if_pos hlt, reply_ok])

theorem exec_ackAttn_of_ge {s : State} {mask : Word} (h : Awaits s (.ackAttn mask)) (hge : 65536 ≤ mask.toNat) :
    exec (.ackAttn mask) s = .next (replied s (some [0x04#8])) :=
  runCommand_of_awaits h (by rw [ackAttention, if_neg (Nat.not_lt.mpr hge), reply_nakRange])

/-- Settles O56: one lemma for each command and range of its operand; the set that an acknowledge leaves is the cause set
without the members of the mask. -/
theorem enableSetAndAcknowledge : Obligations.EnableSetAndAcknowledge := by
  intro s v
  refine ⟨fun h => ⟨fun hlt => ?enable, exec_enableSetWrite_of_ge h⟩,
    fun h => ⟨fun hlt => ⟨_, ?acknowledge, inCauseSet_and_not s.attention.causes (v.setWidth 16)⟩,
      exec_ackAttn_of_ge h⟩⟩
  case enable => rw [exec_enableSetWrite_of_lt h hlt, replaceEnableSet_eq]
  case acknowledge => rw [exec_ackAttn_of_lt h hlt, acknowledgeCauses_eq]

end Sys2Proof.Machine

/-! SUPPORT. The words of a request and their lanes, staging word by word as one list equation, and the bytes that entries hold
after it. -/

namespace Sys2Proof.Machine

/-! ### Words of a request -/

/-- The word address is the address without its three low bits. -/
theorem wordAddr_toNat (a : Word) : (wordAddr a).toNat = a.toNat / 8 * 8 := by
  have hmask : ∀ i, i < 32 → (0xFFFFFFF8 : Nat).testBit i = decide (3 ≤ i) := by decide
  have hshift : a.toNat / 8 * 8 = a.toNat >>> 3 <<< 3 := by
    rw [Nat.shiftRight_eq_div_pow, Nat.shiftLeft_eq]
  rw [hshift, wordAddr, BitVec.toNat_and]
  refine Nat.eq_of_testBit_eq fun i => ?_
  rw [Nat.testBit_and, Nat.testBit_shiftLeft, Nat.testBit_shiftRight]
  by_cases hi : i < 32
  · rw [show (4294967288#32).toNat = 0xFFFFFFF8 from rfl, hmask i hi]
    by_cases h3 : 3 ≤ i
    · simp [h3]
    · simp [h3]
  · have hhigh : a.toNat.testBit i = false :=
      Nat.testBit_lt_two_pow (Nat.lt_of_lt_of_le a.isLt (Nat.pow_le_pow_right (by decide) (by omega)))
    by_cases h3 : 3 ≤ i
    · simp [hhigh, h3]
    · omega

theorem wordAddr_toNat_le (a : Word) : (wordAddr a).toNat ≤ a.toNat := by
  rw [wordAddr_toNat]
  omega

/-- A request of the form of 00_scope.md 4.2 stays within its line, so its words do not wrap. -/
theorem line_of_fits {addr : Word} {len : Length} (h : len.fits addr = true) :
    addr.toNat % 64 + len.bytes ≤ 64 := by
  simp only [Length.fits, Bool.and_eq_true, decide_eq_true_eq] at h
  exact h.2

theorem fits_of_wf {r : Request} (h : r.wf = true) : r.len.fits r.addr = true :=
  ((Bool.and_eq_true _ _).mp h).1

theorem payloadWf_of_wf {r : Request} (h : r.wf = true) : payloadWf r.addr r.len r.payload = true :=
  ((Bool.and_eq_true _ _).mp h).2

/-- What a fitting length says of its numbers. -/
theorem fits_cases {addr : Word} {len : Length} (h : len.fits addr = true) :
    (∃ n, len = .sub n ∧ (n = 1 ∨ n = 2 ∨ n = 4) ∧ addr.toNat % n = 0) ∨
    ∃ n, len = .words n ∧ 1 ≤ n ∧ n ≤ 8 ∧ addr.toNat % 8 = 0 ∧ addr.toNat % 64 + 8 * n ≤ 64 := by
  simp only [Length.fits, Bool.and_eq_true, decide_eq_true_eq, beq_iff_eq] at h
  obtain ⟨⟨hwf, halign⟩, hline⟩ := h
  cases len with
  | sub n => exact .inl ⟨n, rfl, by simpa [Length.wf, or_assoc] using hwf, halign⟩
  | words n =>
    simp only [Length.wf, Bool.and_eq_true, decide_eq_true_eq] at hwf
    exact .inr ⟨n, rfl, hwf.1, hwf.2, halign, hline⟩

/-- The words of a request do not pass the end of the address space. -/
theorem wordAddr_add_toNat {r : Request} (h : r.len.fits r.addr = true) {i : Nat} (hi : i < r.len.wordCount) :
    (wordAddr r.addr + BitVec.ofNat 32 (8 * i)).toNat = (wordAddr r.addr).toNat + 8 * i := by
  have hlt := r.addr.isLt
  have hle := wordAddr_toNat_le r.addr
  rw [BitVec.toNat_add, BitVec.toNat_ofNat]
  obtain ⟨n, hlen, -, -⟩ | ⟨n, hlen, -, hn, -, hline⟩ := fits_cases h
  · rw [hlen, Length.wordCount] at hi
    omega
  · rw [hlen, Length.wordCount] at hi
    omega

/-- The words of a request stand in ascending address order. -/
theorem rangeWords_ascending {r : Request} (h : r.len.fits r.addr = true) :
    (rangeWords r).Pairwise fun a b => a.toNat < b.toNat := by
  rw [rangeWords, List.pairwise_map]
  refine List.Pairwise.imp_of_mem ?_ List.pairwise_lt_range
  intro i j hi hj hij
  rw [wordAddr_add_toNat h (List.mem_range.mp hi), wordAddr_add_toNat h (List.mem_range.mp hj)]
  omega

@[simp] theorem rangeWords_length (r : Request) : (rangeWords r).length = r.len.wordCount := by
  simp [rangeWords]

/-- The words of a write stand in ascending address order. -/
theorem writeWords_ascending {r : Request} (h : r.len.fits r.addr = true) :
    (writeWords r).Pairwise fun p q => p.1.toNat < q.1.toNat := by
  unfold writeWords
  cases r.payload with
  | read => exact List.Pairwise.nil
  | write ws =>
    have hpair := rangeWords_ascending h
    rw [List.pairwise_iff_getElem] at hpair ⊢
    intro i j hi hj hij
    simp only [List.length_zip, Nat.lt_min] at hi hj
    simpa using hpair i j hi.1 hj.1 hij

theorem carryingWords_ascending {r : Request} (h : r.len.fits r.addr = true) :
    (carryingWords r).Pairwise fun p q => p.1.toNat < q.1.toNat :=
  (writeWords_ascending h).filter _

/-- Words that ascend are distinct. -/
theorem nodup_of_ascending {ps : List (Word × Lanes)} (h : ps.Pairwise fun p q => p.1.toNat < q.1.toNat) :
    (ps.map fun p => p.1).Nodup := by
  rw [List.Nodup, List.pairwise_map]
  exact h.imp fun hlt heq => by rw [heq] at hlt; omega

theorem carryingWords_nodup {r : Request} (h : r.wf = true) : ((carryingWords r).map fun p => p.1).Nodup :=
  nodup_of_ascending (carryingWords_ascending (fits_of_wf h))

/-- Every word of a well-formed write has eight lanes. -/
theorem writeWords_lanes {r : Request} (h : r.wf = true) {p : Word × Lanes} (hp : p ∈ writeWords r) :
    p.2.length = 8 := by
  have hpay := payloadWf_of_wf h
  unfold writeWords at hp
  cases hr : r.payload with
  | read => simp [hr] at hp
  | write ws =>
    simp only [hr] at hp
    simp only [hr, payloadWf, Bool.and_eq_true] at hpay
    obtain ⟨⟨-, hlanes⟩, -⟩ := hpay
    have hmem := (List.of_mem_zip hp).2
    simpa [lanesWf] using List.all_eq_true.mp hlanes _ hmem

theorem mem_carryingWords {r : Request} {p : Word × Lanes} :
    p ∈ carryingWords r ↔ p ∈ writeWords r ∧ carries p.2 = true :=
  List.mem_filter

/-! ### Staging, word by word (R5, R6) -/

/-- The entry that a word allocates. -/
def allocated (w : Window) (position : Nat) (p : Word × Lanes) : Entry :=
  { addr := p.1, lanes := p.2, window := w, position := position }

@[simp] theorem allocated_addr (w : Window) (n : Nat) (p : Word × Lanes) : (allocated w n p).addr = p.1 := rfl
@[simp] theorem allocated_lanes (w : Window) (n : Nat) (p : Word × Lanes) : (allocated w n p).lanes = p.2 := rfl
@[simp] theorem allocated_window (w : Window) (n : Nat) (p : Word × Lanes) : (allocated w n p).window = w := rfl
@[simp] theorem allocated_position (w : Window) (n : Nat) (p : Word × Lanes) : (allocated w n p).position = n := rfl

/-- The entry with the word of its address overlaid, where some word has its address. -/
def coalesced (ps : List (Word × Lanes)) (e : Entry) : Entry :=
  { e with lanes := ((ps.find? fun p => p.1 == e.addr).map fun p => overlay p.2 e.lanes).getD e.lanes }

/-- Some entry of the list is for the word. -/
def holds (es : List Entry) (a : Word) : Bool :=
  es.any fun e => e.addr == a

theorem hasOpen_eq_holds (st : Store) (a : Word) : hasOpen st a = holds (openEntries st) a := rfl

/-- A map that keeps the addresses keeps the words held. -/
theorem holds_map {es : List Entry} {f : Entry → Entry} (h : ∀ e, (f e).addr = e.addr) (a : Word) :
    holds (es.map f) a = holds es a := by
  simp [holds, List.any_map, Function.comp_def, h]

theorem holds_append (es fs : List Entry) (a : Word) : holds (es ++ fs) a = (holds es a || holds fs a) := by
  simp [holds]

theorem coalesced_of_absent {ps : List (Word × Lanes)} {e : Entry} (h : e.addr ∉ ps.map fun p => p.1) :
    coalesced ps e = e := by
  have hnone : ps.find? (fun p => p.1 == e.addr) = none := by
    rw [List.find?_eq_none]
    intro p hp heq
    exact h (List.mem_map.mpr ⟨p, hp, by simpa using heq⟩)
  simp [coalesced, hnone]

theorem coalesceWord_eq (es : List Entry) (p : Word × Lanes) : coalesceWord es p = es.map (coalesced [p]) := by
  have h := foldl_coalesceWord [p] es (by simp)
  exact h

/-- Overlaying one word and then others of other addresses is overlaying all of them. -/
theorem coalesced_cons {p : Word × Lanes} {ps : List (Word × Lanes)} (h : p.1 ∉ ps.map fun q => q.1) (e : Entry) :
    coalesced ps (coalesced [p] e) = coalesced (p :: ps) e := by
  by_cases hp : p.1 = e.addr
  · have habsent : (coalesced [p] e).addr ∉ ps.map fun q => q.1 := hp ▸ h
    rw [coalesced_of_absent habsent]
    simp [coalesced, hp]
  · rw [coalesced_of_absent (ps := [p]) (by simpa using fun k => hp k.symm)]
    simp [coalesced, hp]

/-- One word is coalesced where an entry holds it, and else allocated at the next position. -/
theorem stageWord_eq (w : Window) (es : List Entry) (p : Word × Lanes) :
    stageWord w es p =
      if holds es p.1 then es.map (coalesced [p]) else es ++ [allocated w (es.length + 1) p] := by
  rw [← coalesceWord_eq]
  rfl

/-- What staging words of distinct addresses does to the entries: those held take the bytes of their words, and each word
without an entry is allocated, in order, at the positions that follow. -/
theorem stageWords_eq (w : Window) (ps : List (Word × Lanes)) (es : List Entry)
    (distinct : (ps.map fun p => p.1).Nodup) :
    stageWords w es ps =
      es.map (coalesced ps) ++
        (ps.filter fun p => !holds es p.1).zipIdx.map fun q => allocated w (es.length + q.2 + 1) q.1 := by
  induction ps generalizing es with
  | nil =>
    have hid : coalesced [] = id := rfl
    simp [stageWords, hid]
  | cons p ps ih =>
    simp only [List.map_cons, List.nodup_cons] at distinct
    obtain ⟨hnew, hdistinct⟩ := distinct
    have hstep : stageWords w es (p :: ps) = stageWords w (stageWord w es p) ps := rfl
    rw [hstep, ih _ hdistinct]
    cases hheld : holds es p.1 with
    | true =>
      have hstage : stageWord w es p = es.map (coalesced [p]) := by
        rw [stageWord_eq, if_pos hheld]
      rw [hstage, List.map_map, List.length_map]
      have hrest : ps.filter (fun q => !holds (es.map (coalesced [p])) q.1) =
          (p :: ps).filter fun q => !holds es q.1 := by
        simp only [holds_map (f := coalesced [p]) (fun _ => rfl), List.filter_cons, hheld]
        simp
      rw [hrest]
      congr 1
      exact List.map_congr_left fun e _ => coalesced_cons hnew e
    | false =>
      have hstage : stageWord w es p = es ++ [allocated w (es.length + 1) p] := by
        rw [stageWord_eq, hheld]
        rfl
      have hkeep : ∀ q ∈ ps, (!holds (es ++ [allocated w (es.length + 1) p]) q.1) = !holds es q.1 := by
        intro q hq
        have hne : ¬ p.1 = q.1 := fun k => hnew (k ▸ List.mem_map_of_mem hq)
        simp [holds, allocated, hne]
      rw [hstage, List.filter_congr hkeep, List.map_append, List.filter_cons, hheld]
      have hold : es.map (coalesced ps) = es.map (coalesced (p :: ps)) := by
        refine List.map_congr_left fun e he => ?_
        have hne : ¬ e.addr = p.1 := fun k => by
          have : holds es p.1 = true := List.any_eq_true.mpr ⟨e, he, by simpa using k⟩
          rw [hheld] at this
          cases this
        rw [← coalesced_cons hnew, coalesced_of_absent (ps := [p]) (by simpa using hne)]
      have hself : coalesced ps (allocated w (es.length + 1) p) = allocated w (es.length + 1) p :=
        coalesced_of_absent hnew
      simp only [List.map_cons, List.map_nil, hself, hold, Bool.not_false, if_true, List.append_assoc,
        List.zipIdx_cons, List.length_append, List.length_singleton, List.singleton_append]
      congr 1
      rw [List.zipIdx_succ]
      simp [allocated, Nat.add_assoc, Nat.add_comm 1]

/-! ### The lanes of an entry (R2, R5) -/

@[simp] theorem overlay_length (new held : Lanes) : (overlay new held).length = min new.length held.length := by
  simp [overlay]

theorem getD_overlay {new held : Lanes} (h : new.length = held.length) (i : Nat) :
    (overlay new held).getD i none = (new.getD i none).or (held.getD i none) := by
  simp only [List.getD_eq_getElem?_getD, overlay, List.getElem?_zipWith]
  by_cases hi : i < held.length
  · rw [List.getElem?_eq_getElem (h ▸ hi), List.getElem?_eq_getElem hi]
    cases new[i]'(h ▸ hi) <;> rfl
  · rw [List.getElem?_eq_none (by omega), List.getElem?_eq_none (by omega)]
    rfl

theorem laneAt_overlay {new held : Lanes} (h : new.length = held.length) (a : Word) :
    laneAt (overlay new held) a = (laneAt new a).or (laneAt held a) :=
  getD_overlay h _

/-- A word that carries no byte has no lane. -/
theorem laneAt_of_not_carries {l : Lanes} (h : carries l = false) (a : Word) : laneAt l a = none := by
  rw [laneAt, List.getD_eq_getElem?_getD]
  cases hl : l[a.toNat % 8]? with
  | none => rfl
  | some lane =>
    have hnone := List.any_eq_false.mp h lane (List.mem_of_getElem? hl)
    simpa using hnone

/-- An overlay over eight lanes carries a byte where what lies under it does. -/
theorem carries_overlay {new held : Lanes} (h : new.length = held.length) (hc : carries held = true) :
    carries (overlay new held) = true := by
  induction held generalizing new with
  | nil => simp [carries] at hc
  | cons x held ih =>
    cases new with
    | nil => simp at h
    | cons n new =>
      have hrest := ih (new := new) (by simpa using h)
      simp only [carries, List.any_cons, Bool.or_eq_true, overlay, List.zipWith_cons_cons] at hc hrest ⊢
      cases n with
      | some b => exact .inl rfl
      | none => exact hc.imp_right hrest

/-! ### Lookups in a list of words -/

/-- The word found at an address, where the addresses are distinct: the same in the words that carry a byte, but for one
that carries none. -/
theorem find_filter_of_nodup {ps : List (Word × Lanes)} (h : (ps.map fun p => p.1).Nodup)
    (c : Word × Lanes → Bool) (a : Word) :
    (ps.filter c).find? (fun p => p.1 == a) = (ps.find? fun p => p.1 == a).filter c := by
  induction ps with
  | nil => rfl
  | cons p ps ih =>
    simp only [List.map_cons, List.nodup_cons] at h
    obtain ⟨hnew, hrest⟩ := h
    by_cases hp : p.1 = a
    · have hnone : (ps.filter c).find? (fun q => q.1 == a) = none := by
        rw [List.find?_eq_none]
        intro q hq heq
        refine hnew ?_
        rw [hp, ← beq_iff_eq.mp heq]
        exact List.mem_map_of_mem (List.mem_filter.mp hq).1
      cases hc : c p <;> simp [hc, hp, hnone, Option.filter]
    · cases hc : c p <;> simp [hc, hp, ih hrest]

theorem writeWords_nodup {r : Request} (h : r.wf = true) : ((writeWords r).map fun p => p.1).Nodup :=
  nodup_of_ascending (writeWords_ascending (fits_of_wf h))

/-- The byte that a write carries is the lane of its carrying word. -/
theorem writeByte_eq {r : Request} (h : r.wf = true) (a : Word) :
    writeByte r a = ((carryingWords r).find? fun p => p.1 == wordAddr a).bind fun p => laneAt p.2 a := by
  rw [writeByte, carryingWords, find_filter_of_nodup (writeWords_nodup h)]
  cases (writeWords r).find? (fun p => p.1 == wordAddr a) with
  | none => rfl
  | some p =>
    cases hc : carries p.2 with
    | true => simp [Option.filter, hc]
    | false => simp [Option.filter, hc, laneAt_of_not_carries hc]

/-! ### What staging leaves of the store (R7, R8) -/

/-- The lane that the entries of a list hold for the byte at an address. -/
def byteIn (es : List Entry) (a : Word) : Option Byte :=
  (es.find? fun e => e.addr == wordAddr a).bind fun e => laneAt e.lanes a

theorem openByte_eq (st : Store) (a : Word) : openByte st a = byteIn (openEntries st) a := rfl

/-- The bytes that entries hold after words were overlaid on them. -/
theorem byteIn_coalesced {es : List Entry} {ps : List (Word × Lanes)} (hps : ∀ p ∈ ps, p.2.length = 8)
    (hes : ∀ e ∈ es, e.lanes.length = 8) (a : Word) :
    byteIn (es.map (coalesced ps)) a =
      if holds es (wordAddr a) then
        ((ps.find? fun p => p.1 == wordAddr a).bind fun p => laneAt p.2 a).or (byteIn es a)
      else none := by
  have hfind : (es.map (coalesced ps)).find? (fun e => e.addr == wordAddr a) =
      (es.find? fun e => e.addr == wordAddr a).map (coalesced ps) := by
    rw [List.find?_map]
    rfl
  rw [byteIn, hfind, byteIn]
  cases hf : es.find? (fun e => e.addr == wordAddr a) with
  | none =>
    have hno : holds es (wordAddr a) = false := by
      rw [holds, List.any_eq_false]
      exact fun e he => by simpa using List.find?_eq_none.mp hf e he
    simp [hno]
  | some e =>
    have hmem := List.mem_of_find?_eq_some hf
    have haddr : e.addr = wordAddr a := by simpa using List.find?_some hf
    have hyes : holds es (wordAddr a) = true := List.any_eq_true.mpr ⟨e, hmem, by simpa using haddr⟩
    rw [if_pos hyes]
    simp only [Option.map_some, Option.bind_some, coalesced, haddr]
    cases hp : ps.find? (fun p => p.1 == wordAddr a) with
    | none => rfl
    | some p =>
      have hlen : p.2.length = e.lanes.length := by
        rw [hps p (List.mem_of_find?_eq_some hp), hes e hmem]
      simp [laneAt_overlay hlen]

/-- The words of a list that no entry is for. -/
def unheld (es : List Entry) (ps : List (Word × Lanes)) : List (Word × Lanes) :=
  ps.filter fun p => !holds es p.1

/-- The entries that staged words allocate, at the positions behind those held. -/
def allocations (w : Window) (es : List Entry) (ps : List (Word × Lanes)) : List Entry :=
  (unheld es ps).zipIdx.map fun q => allocated w (es.length + q.2 + 1) q.1

theorem stageWords_eq_append (w : Window) {ps : List (Word × Lanes)} (es : List Entry)
    (distinct : (ps.map fun p => p.1).Nodup) :
    stageWords w es ps = es.map (coalesced ps) ++ allocations w es ps :=
  stageWords_eq w ps es distinct

/-- A property of the word of an allocated entry, looked up at an address. -/
theorem find_allocations (w : Window) (es : List Entry) (ps : List (Word × Lanes)) (a : Word) :
    ((allocations w es ps).find? fun e => e.addr == a).map (fun e => e.lanes) =
      ((unheld es ps).find? fun p => p.1 == a).map fun p => p.2 := by
  unfold allocations
  generalize es.length = n
  have hgen : ∀ (qs : List (Word × Lanes)) (k : Nat),
      (((qs.zipIdx k).map fun q => allocated w (n + q.2 + 1) q.1).find? fun e => e.addr == a).map (fun e => e.lanes) =
        (qs.find? fun p => p.1 == a).map fun p => p.2 := by
    intro qs
    induction qs with
    | nil => exact fun _ => rfl
    | cons q qs ih =>
      intro k
      by_cases hq : q.1 = a
      · simp [List.zipIdx_cons, allocated, hq]
      · have hrest := ih (k + 1)
        simpa [List.zipIdx_cons, allocated, hq] using hrest
  exact hgen _ 0

/-- The bytes that entries hold after words were staged. -/
theorem byteIn_stageWords (w : Window) {es : List Entry} {ps : List (Word × Lanes)}
    (distinct : (ps.map fun p => p.1).Nodup) (hps : ∀ p ∈ ps, p.2.length = 8)
    (hes : ∀ e ∈ es, e.lanes.length = 8) (a : Word) :
    byteIn (stageWords w es ps) a =
      ((ps.find? fun p => p.1 == wordAddr a).bind fun p => laneAt p.2 a).or (byteIn es a) := by
  rw [stageWords_eq_append w es distinct]
  cases hheld : holds es (wordAddr a) with
  | true =>
    have hcoal := byteIn_coalesced hps hes a
    rw [hheld, if_pos rfl] at hcoal
    rw [← hcoal, byteIn, byteIn, List.find?_append]
    cases hf : (es.map (coalesced ps)).find? (fun e => e.addr == wordAddr a) with
    | some e => rfl
    | none =>
      have hno : holds (es.map (coalesced ps)) (wordAddr a) = false := by
        rw [holds, List.any_eq_false]
        exact fun e he => by simpa using List.find?_eq_none.mp hf e he
      rw [holds_map (f := coalesced ps) (fun _ => rfl), hheld] at hno
      cases hno
  | false =>
    have hnone : ∀ f : Entry → Entry, (∀ e, (f e).addr = e.addr) →
        (es.map f).find? (fun e => e.addr == wordAddr a) = none := by
      intro f hf
      rw [List.find?_eq_none]
      intro e he heq
      have : holds (es.map f) (wordAddr a) = true := List.any_eq_true.mpr ⟨e, he, heq⟩
      rw [holds_map hf, hheld] at this
      cases this
    have hes0 : byteIn es a = none := by
      have := hnone id fun _ => rfl
      rw [List.map_id] at this
      simp [byteIn, this]
    have hfilter : (unheld es ps).find? (fun p => p.1 == wordAddr a) = ps.find? fun p => p.1 == wordAddr a := by
      rw [unheld, find_filter_of_nodup distinct]
      cases hp : ps.find? (fun p => p.1 == wordAddr a) with
      | none => rfl
      | some p =>
        have haddr : p.1 = wordAddr a := by simpa using List.find?_some hp
        simp [Option.filter, haddr, hheld]
    have hnew := find_allocations w es ps (wordAddr a)
    rw [hfilter] at hnew
    rw [hes0, Option.or_none, byteIn, List.find?_append, hnone (coalesced ps) fun _ => rfl, Option.none_or]
    cases hl : (allocations w es ps).find? (fun e => e.addr == wordAddr a) <;>
      cases hp : ps.find? (fun p => p.1 == wordAddr a) <;> simp_all

end Sys2Proof.Machine

/-! SUPPORT. The bytes that staging adds, counted by word and by the range of the request. -/

namespace Sys2Proof.Machine

/-! ### The bytes that staging adds (R4) -/

/-- The lanes that a word fills of those not yet held. -/
def gain (new held : Lanes) : Nat :=
  (new.zip held).countP fun q => q.1.isSome && q.2.isNone

theorem laneCount_overlay {new held : Lanes} (h : new.length = held.length) :
    laneCount (overlay new held) = laneCount held + gain new held := by
  induction held generalizing new with
  | nil => simp [laneCount, overlay, gain]
  | cons x held ih =>
    cases new with
    | nil => simp at h
    | cons n new =>
      have hrest := ih (new := new) (by simpa using h)
      simp only [laneCount, overlay, gain, List.zipWith_cons_cons, List.countP_cons, List.zip_cons_cons] at hrest ⊢
      cases n <;> cases x <;> simp_all <;> omega

theorem gain_emptyLanes {new : Lanes} (h : new.length = 8) : gain new emptyLanes = laneCount new := by
  have hfree := laneCount_overlay (new := new) (held := emptyLanes) (by simpa [emptyLanes] using h)
  have hover : overlay new emptyLanes = new := by
    refine List.ext_getElem (by simp [emptyLanes, h]) fun i h1 h2 => ?_
    simp only [overlay, List.getElem_zipWith, emptyLanes, List.getElem_replicate]
    cases new[i] <;> rfl
  have hzero : laneCount emptyLanes = 0 := rfl
  rw [hover] at hfree
  omega

/-- The lanes held for a word, none where no entry is for it. -/
def lanesAt (es : List Entry) (a : Word) : Lanes :=
  match es.find? fun e => e.addr == a with
  | none => emptyLanes
  | some e => e.lanes

theorem lanesAt_length {es : List Entry} (hes : ∀ e ∈ es, e.lanes.length = 8) (a : Word) :
    (lanesAt es a).length = 8 := by
  unfold lanesAt
  split
  · rfl
  · next e he => exact hes e (List.mem_of_find?_eq_some he)

theorem byteIn_eq_lanesAt (es : List Entry) (a : Word) : byteIn es a = laneAt (lanesAt es (wordAddr a)) a := by
  unfold byteIn lanesAt
  split
  · next h =>
    rw [h, laneAt_of_not_carries rfl]
    rfl
  · next e h => rw [h]; rfl

/-- Overlaying words does not reach the lanes of an address that is none of theirs. -/
theorem lanesAt_coalesced_of_absent {es : List Entry} {ps : List (Word × Lanes)} {a : Word}
    (h : a ∉ ps.map fun p => p.1) : lanesAt (es.map (coalesced ps)) a = lanesAt es a := by
  have hfind : (es.map (coalesced ps)).find? (fun e => e.addr == a) =
      (es.find? fun e => e.addr == a).map (coalesced ps) := by
    rw [List.find?_map]
    rfl
  unfold lanesAt
  rw [hfind]
  cases hf : es.find? (fun e => e.addr == a) with
  | none => rfl
  | some e =>
    have haddr : e.addr = a := by simpa using List.find?_some hf
    simp [coalesced_of_absent (haddr ▸ h)]

@[simp] theorem bytesOf_nil : bytesOf [] = 0 := rfl
@[simp] theorem bytesOf_cons (e : Entry) (es : List Entry) : bytesOf (e :: es) = laneCount e.lanes + bytesOf es := rfl
@[simp] theorem bytesOf_append (es fs : List Entry) : bytesOf (es ++ fs) = bytesOf es + bytesOf fs := by
  simp [bytesOf]

/-- One word overlaid adds what it fills of the one entry that is for it. -/
theorem bytesOf_coalesced_one {es : List Entry} (hes : ∀ e ∈ es, e.lanes.length = 8)
    (hdistinct : (es.map fun e => e.addr).Nodup) {p : Word × Lanes} (hp : p.2.length = 8) :
    bytesOf (es.map (coalesced [p])) =
      bytesOf es + if holds es p.1 then gain p.2 (lanesAt es p.1) else 0 := by
  induction es with
  | nil => rfl
  | cons e es ih =>
    simp only [List.map_cons, List.nodup_cons] at hdistinct
    obtain ⟨hnew, hrest⟩ := hdistinct
    have hlen := hes e (List.mem_cons_self ..)
    have htail := ih (fun x hx => hes x (List.mem_cons_of_mem _ hx)) hrest
    rw [List.map_cons, bytesOf_cons, bytesOf_cons, htail]
    by_cases he : e.addr = p.1
    · have hno : holds es p.1 = false := by
        rw [holds, List.any_eq_false]
        intro x hx heq
        exact hnew (by rw [he, ← beq_iff_eq.mp heq]; exact List.mem_map_of_mem hx)
      have hover := laneCount_overlay (new := p.2) (held := e.lanes) (by omega)
      have hyes : holds (e :: es) p.1 = true := by simp [holds, he]
      simp only [hno, hyes, coalesced, lanesAt, he, List.find?_cons, beq_self_eq_true, Option.map_some,
        Option.getD_some, if_true, hover]
      simp
      omega
    · have hsame : coalesced [p] e = e := coalesced_of_absent (by simpa using he)
      have hlanes : lanesAt (e :: es) p.1 = lanesAt es p.1 := by simp [lanesAt, he]
      have hheld : holds (e :: es) p.1 = holds es p.1 := by simp [holds, he]
      rw [hsame, hlanes, hheld]
      omega

/-- Words of distinct addresses overlaid add what each fills of the entry that is for it. -/
theorem bytesOf_coalesced {es : List Entry} {ps : List (Word × Lanes)} (hes : ∀ e ∈ es, e.lanes.length = 8)
    (hdistinct : (es.map fun e => e.addr).Nodup) (hps : ∀ p ∈ ps, p.2.length = 8)
    (distinct : (ps.map fun p => p.1).Nodup) :
    bytesOf (es.map (coalesced ps)) =
      bytesOf es + (ps.map fun p => if holds es p.1 then gain p.2 (lanesAt es p.1) else 0).sum := by
  induction ps generalizing es with
  | nil =>
    have hid : coalesced [] = id := rfl
    simp [hid]
  | cons p ps ih =>
    simp only [List.map_cons, List.nodup_cons] at distinct
    obtain ⟨hnew, hrest⟩ := distinct
    have hsplit : es.map (coalesced (p :: ps)) = (es.map (coalesced [p])).map (coalesced ps) := by
      rw [List.map_map]
      exact List.map_congr_left fun e _ => (coalesced_cons hnew e).symm
    have hlanes : ∀ e ∈ es.map (coalesced [p]), e.lanes.length = 8 := by
      intro e he
      obtain ⟨x, hx, rfl⟩ := List.mem_map.mp he
      have hxl := hes x hx
      have hpl := hps p (List.mem_cons_self ..)
      by_cases hpx : p.1 = x.addr
      · simp [coalesced, hpx, hxl, hpl]
      · rw [coalesced_of_absent (by simpa using fun k => hpx k.symm)]
        exact hxl
    have haddr : ((es.map (coalesced [p])).map fun e => e.addr).Nodup := by
      rw [List.map_map]
      exact hdistinct
    have hone := bytesOf_coalesced_one hes hdistinct (hps p (List.mem_cons_self ..))
    have hall := ih hlanes haddr (fun q hq => hps q (List.mem_cons_of_mem _ hq)) hrest
    have hsame : ps.map (fun q => if holds (es.map (coalesced [p])) q.1 then
          gain q.2 (lanesAt (es.map (coalesced [p])) q.1) else 0) =
        ps.map fun q => if holds es q.1 then gain q.2 (lanesAt es q.1) else 0 := by
      refine List.map_congr_left fun q hq => ?_
      have hne : q.1 ∉ [p].map fun x => x.1 := by
        simpa using fun k : q.1 = p.1 => hnew (k ▸ List.mem_map_of_mem hq)
      rw [holds_map (f := coalesced [p]) (fun _ => rfl), lanesAt_coalesced_of_absent hne]
    rw [hsplit, hall, hsame, hone, List.map_cons, List.sum_cons]
    omega

theorem bytesOf_allocations (w : Window) (es : List Entry) (ps : List (Word × Lanes)) :
    bytesOf (allocations w es ps) = ((unheld es ps).map fun p => laneCount p.2).sum := by
  unfold allocations bytesOf
  rw [List.map_map]
  generalize es.length = n
  have hgen : ∀ (qs : List (Word × Lanes)) (k : Nat),
      ((qs.zipIdx k).map ((fun e => laneCount e.lanes) ∘ fun q => allocated w (n + q.2 + 1) q.1)).sum =
        (qs.map fun p => laneCount p.2).sum := by
    intro qs
    induction qs with
    | nil => exact fun _ => rfl
    | cons q qs ih => intro k; simp [List.zipIdx_cons, ih]
  exact hgen _ 0

/-- Staged words add what each fills of what was held for it. -/
theorem bytesOf_stageWords (w : Window) {es : List Entry} {ps : List (Word × Lanes)}
    (hes : ∀ e ∈ es, e.lanes.length = 8) (hdistinct : (es.map fun e => e.addr).Nodup)
    (hps : ∀ p ∈ ps, p.2.length = 8) (distinct : (ps.map fun p => p.1).Nodup) :
    bytesOf (stageWords w es ps) = bytesOf es + (ps.map fun p => gain p.2 (lanesAt es p.1)).sum := by
  rw [stageWords_eq_append w es distinct, bytesOf_append, bytesOf_coalesced hes hdistinct hps distinct,
    bytesOf_allocations, Nat.add_assoc]
  congr 1
  clear distinct
  induction ps with
  | nil => rfl
  | cons p ps ih =>
    have hrest := ih fun q hq => hps q (List.mem_cons_of_mem _ hq)
    cases hheld : holds es p.1 with
    | true => simp [unheld, hheld] at hrest ⊢; omega
    | false =>
      have hempty : lanesAt es p.1 = emptyLanes := by
        have hnone : es.find? (fun e => e.addr == p.1) = none := by
          rw [List.find?_eq_none]
          exact fun e he => List.any_eq_false.mp hheld e he
        simp [lanesAt, hnone]
      have hgain := gain_emptyLanes (hps p (List.mem_cons_self ..))
      simp [unheld, hheld, hempty, hgain] at hrest ⊢
      omega

/-! ### The bytes of a request's range (section 1.1) -/

/-- The lanes filled, counted by their index. -/
theorem gain_eq_countP {new held : Lanes} (hn : new.length = 8) (hh : held.length = 8) :
    gain new held = (List.range 8).countP fun i => (new.getD i none).isSome && (held.getD i none).isNone := by
  have hzip : new.zip held = (List.range 8).map fun i => (new.getD i none, held.getD i none) := by
    refine List.ext_getElem (by simp [hn, hh]) fun i h1 h2 => ?_
    simp only [List.length_zip, Nat.lt_min] at h1
    simp [h1.1, h1.2]
  rw [gain, hzip, List.countP_map]
  rfl

/-- The word of a byte at an offset from an aligned address, and its lane. -/
theorem wordAddr_add {base : Word} (hbase : base.toNat % 8 = 0) {i : Nat} (hi : i < 8) :
    wordAddr (base + BitVec.ofNat 32 i) = base ∧ (base + BitVec.ofNat 32 i).toNat % 8 = i := by
  have hlt := base.isLt
  have hsum : (base + BitVec.ofNat 32 i).toNat = base.toNat + i := by
    rw [BitVec.toNat_add, BitVec.toNat_ofNat]
    omega
  refine ⟨BitVec.eq_of_toNat_eq ?_, by omega⟩
  rw [wordAddr_toNat, hsum]
  omega

theorem wordAddr_aligned (a : Word) : (wordAddr a).toNat % 8 = 0 := by
  rw [wordAddr_toNat]
  omega

/-- The bytes that a word would add, counted over its eight addresses. -/
theorem gain_eq_countP_bytes {es : List Entry} (hes : ∀ e ∈ es, e.lanes.length = 8) {base : Word}
    (hbase : base.toNat % 8 = 0) {l : Lanes} (hl : l.length = 8) :
    gain l (lanesAt es base) = (List.range 8).countP fun i =>
      (laneAt l (base + BitVec.ofNat 32 i)).isSome && (byteIn es (base + BitVec.ofNat 32 i)).isNone := by
  rw [gain_eq_countP hl (lanesAt_length hes base)]
  refine List.countP_congr fun i hi => ?_
  obtain ⟨hword, hlane⟩ := wordAddr_add hbase (List.mem_range.mp hi)
  rw [byteIn_eq_lanesAt, hword, laneAt, laneAt, hlane]

/-- A count over 8 n bytes goes word by word. -/
theorem countP_range_words (f : Nat → Bool) (n : Nat) :
    (List.range (8 * n)).countP f =
      ((List.range n).map fun k => (List.range 8).countP fun i => f (8 * k + i)).sum := by
  induction n with
  | zero => rfl
  | succ n ih =>
    rw [Nat.mul_succ, List.range_add, List.countP_append, ih, List.range_succ (n := n), List.map_append, List.sum_append,
      List.countP_map]
    simp [Function.comp_def]

theorem gain_of_not_carries {new held : Lanes} (h : carries new = false) : gain new held = 0 := by
  rw [gain, List.countP_eq_zero]
  rintro ⟨n, x⟩ hmem
  have hnone := List.any_eq_false.mp h n (List.of_mem_zip hmem).1
  simpa using fun k : n.isSome = true => absurd k hnone

/-- What a word found by its address is, where the addresses are distinct. -/
theorem find_eq_of_mem {ps : List (Word × Lanes)} (h : (ps.map fun p => p.1).Nodup) {p : Word × Lanes} (hp : p ∈ ps) :
    ps.find? (fun q => q.1 == p.1) = some p := by
  cases hf : ps.find? (fun q => q.1 == p.1) with
  | none =>
    rw [List.find?_eq_none] at hf
    exact absurd (beq_self_eq_true p.1) (hf p hp)
  | some q =>
    have haddr : q.1 = p.1 := by simpa using List.find?_some hf
    rw [List.inj_on_of_nodup_map h (List.mem_of_find?_eq_some hf) hp haddr]

theorem writeByte_of_mem {r : Request} (h : r.wf = true) {p : Word × Lanes} (hp : p ∈ writeWords r) {a : Word}
    (ha : wordAddr a = p.1) : writeByte r a = laneAt p.2 a := by
  rw [writeByte, ha, find_eq_of_mem (writeWords_nodup h) hp]
  rfl

/-- The bytes of a range that a write would add to some of its words. -/
def newBytes (c : Word → Bool) (r : Request) (es : List Entry) (a : Word) : Bool :=
  c (wordAddr a) && (writeByte r a).isSome && (byteIn es a).isNone

/-- What one word of a write would add, counted over its eight addresses. -/
theorem countP_newBytes_word {c : Word → Bool} {r : Request} (h : r.wf = true) {es : List Entry}
    (hes : ∀ e ∈ es, e.lanes.length = 8) {p : Word × Lanes} (hp : p ∈ writeWords r) (hbase : p.1.toNat % 8 = 0) :
    ((List.range 8).countP fun i => newBytes c r es (p.1 + BitVec.ofNat 32 i)) =
      if c p.1 then gain p.2 (lanesAt es p.1) else 0 := by
  have hbyte : ∀ i ∈ List.range 8, newBytes c r es (p.1 + BitVec.ofNat 32 i) =
      (c p.1 && ((laneAt p.2 (p.1 + BitVec.ofNat 32 i)).isSome && (byteIn es (p.1 + BitVec.ofNat 32 i)).isNone)) := by
    intro i hi
    obtain ⟨hword, -⟩ := wordAddr_add hbase (List.mem_range.mp hi)
    rw [newBytes, hword, writeByte_of_mem h hp hword, Bool.and_assoc]
  rw [List.countP_congr fun i hi => by rw [hbyte i hi], gain_eq_countP_bytes hes hbase (writeWords_lanes h hp)]
  cases c p.1 <;> simp

theorem writeWords_of_write {r : Request} (h : r.wf = true) {ws : List Lanes} (hw : r.payload = .write ws) :
    ws.length = r.len.wordCount ∧
      writeWords r = (List.range r.len.wordCount).map fun k =>
        (wordAddr r.addr + BitVec.ofNat 32 (8 * k), ws.getD k []) := by
  have hpay := payloadWf_of_wf h
  rw [hw] at hpay
  simp only [payloadWf, Bool.and_eq_true, beq_iff_eq] at hpay
  obtain ⟨⟨hlen, -⟩, -⟩ := hpay
  refine ⟨hlen, ?_⟩
  rw [writeWords, hw]
  refine List.ext_getElem (by simp [hlen]) fun k h1 h2 => ?_
  have hk : k < ws.length := by simpa [hlen] using h2
  simp [rangeWords, hk]

/-- In a sub-word write only the lanes of its access hold a byte. -/
theorem laneAt_outside_access {r : Request} (h : r.wf = true) {n : Nat} (hn : r.len = .sub n) {p : Word × Lanes}
    (hp : p ∈ writeWords r) {a : Word} (ha : inAccess (r.addr.toNat % 8) n (a.toNat % 8) = false) :
    laneAt p.2 a = none := by
  have hpay := payloadWf_of_wf h
  unfold writeWords at hp
  cases hr : r.payload with
  | read => simp [hr] at hp
  | write ws =>
    simp only [hr] at hp
    simp only [hr, hn, payloadWf, Bool.and_eq_true] at hpay
    obtain ⟨-, hmask⟩ := hpay
    have hl := List.all_eq_true.mp hmask _ (List.of_mem_zip hp).2
    rw [laneAt, List.getD_eq_getElem?_getD]
    cases hlane : p.2[a.toNat % 8]? with
    | none => rfl
    | some lane =>
      have hzip : (lane, a.toNat % 8) ∈ p.2.zipIdx := List.mem_zipIdx_iff_getElem?.mpr hlane
      have hin := List.all_eq_true.mp hl _ hzip
      simpa [ha] using hin

/-- The bytes that a sub-word write would add, counted over the range and over the word. -/
theorem countP_newBytes_sub {c : Word → Bool} {r : Request} (h : r.wf = true) {es : List Entry} {n : Nat}
    (hn : r.len = .sub n) (hfit : r.addr.toNat % 8 + n ≤ 8) {p : Word × Lanes} (hp : p ∈ writeWords r)
    (hword : p.1 = wordAddr r.addr) :
    (rangeBytes r).countP (newBytes c r es) =
      (List.range 8).countP fun i => newBytes c r es (p.1 + BitVec.ofNat 32 i) := by
  have hbase : p.1.toNat % 8 = 0 := hword ▸ wordAddr_aligned r.addr
  have hoff : r.addr = p.1 + BitVec.ofNat 32 (r.addr.toNat % 8) := by
    refine BitVec.eq_of_toNat_eq ?_
    have hlt := r.addr.isLt
    rw [BitVec.toNat_add, BitVec.toNat_ofNat, hword, wordAddr_toNat]
    omega
  have hout : ∀ i, i < 8 → inAccess (r.addr.toNat % 8) n i = false →
      newBytes c r es (p.1 + BitVec.ofNat 32 i) = false := by
    intro i hi hin
    obtain ⟨hw, hl⟩ := wordAddr_add hbase hi
    rw [newBytes, writeByte_of_mem h hp hw, laneAt_outside_access h hn hp (by rw [hl]; exact hin)]
    simp
  have hrange : List.range 8 = List.range (r.addr.toNat % 8) ++
      ((List.range n).map (r.addr.toNat % 8 + ·) ++
        (List.range (8 - r.addr.toNat % 8 - n)).map (r.addr.toNat % 8 + n + ·)) := by
    rw [← List.append_assoc, ← List.range_add, ← List.range_add]
    congr 1
    omega
  have hlow : (List.range (r.addr.toNat % 8)).countP (fun i => newBytes c r es (p.1 + BitVec.ofNat 32 i)) = 0 := by
    rw [List.countP_eq_zero]
    intro i hi
    have hlt := List.mem_range.mp hi
    rw [hout i (by omega) (by simp [inAccess]; omega)]
    simp
  have hhigh : ((List.range (8 - r.addr.toNat % 8 - n)).map (r.addr.toNat % 8 + n + ·)).countP
      (fun i => newBytes c r es (p.1 + BitVec.ofNat 32 i)) = 0 := by
    rw [List.countP_eq_zero]
    intro i hi
    obtain ⟨j, hj, rfl⟩ := List.mem_map.mp hi
    have hlt := List.mem_range.mp hj
    rw [hout _ (by omega) (by simp [inAccess])]
    simp
  rw [hrange, List.countP_append, List.countP_append, hlow, hhigh, Nat.zero_add, Nat.add_zero, rangeBytes, hn,
    Length.bytes, List.countP_map, List.countP_map]
  refine List.countP_congr fun i _ => ?_
  have haddr : r.addr + BitVec.ofNat 32 i = p.1 + BitVec.ofNat 32 (r.addr.toNat % 8 + i) := by
    rw [BitVec.ofNat_add, ← BitVec.add_assoc, ← hoff]
  simp only [Function.comp, haddr]

/-- The bytes of the range that a write would add, word by word. -/
theorem countP_newBytes {c : Word → Bool} {r : Request} (h : r.wf = true) {es : List Entry}
    (hes : ∀ e ∈ es, e.lanes.length = 8) :
    (rangeBytes r).countP (newBytes c r es) =
      ((carryingWords r).map fun p => if c p.1 then gain p.2 (lanesAt es p.1) else 0).sum := by
  have hcarry : ((carryingWords r).map fun p => if c p.1 then gain p.2 (lanesAt es p.1) else 0).sum =
      ((writeWords r).map fun p => if c p.1 then gain p.2 (lanesAt es p.1) else 0).sum := by
    unfold carryingWords
    induction writeWords r with
    | nil => rfl
    | cons p ps ih => cases hp : carries p.2 <;> simp [hp, ih, gain_of_not_carries]
  rw [hcarry]
  cases hr : r.payload with
  | read =>
    have hnone : writeWords r = [] := by rw [writeWords, hr]
    rw [hnone, List.countP_eq_zero.mpr]
    · rfl
    · intro a _
      simp [newBytes, writeByte, hnone]
  | write ws =>
    obtain ⟨-, hwords⟩ := writeWords_of_write h hr
    obtain ⟨n, hlen, hn, halign⟩ | ⟨n, hlen, -, hn, halign, hline⟩ := fits_cases (fits_of_wf h)
    · have hone : writeWords r = [(wordAddr r.addr, ws.getD 0 [])] := by
        rw [hwords, hlen]
        simp [Length.wordCount]
      have hp : (wordAddr r.addr, ws.getD 0 []) ∈ writeWords r := by rw [hone]; simp
      have hfit : r.addr.toNat % 8 + n ≤ 8 := by
        obtain rfl | rfl | rfl := hn <;> omega
      rw [countP_newBytes_sub h hlen hfit hp rfl, countP_newBytes_word h hes hp (wordAddr_aligned _), hone]
      simp
    · have hbase : wordAddr r.addr = r.addr := by
        refine BitVec.eq_of_toNat_eq ?_
        rw [wordAddr_toNat]
        omega
      rw [rangeBytes, hlen, Length.bytes, List.countP_map, countP_range_words]
      rw [hwords, hlen, Length.wordCount, List.map_map, hbase]
      congr 1
      refine List.map_congr_left fun k hk => ?_
      have hmem : (r.addr + BitVec.ofNat 32 (8 * k), ws.getD k []) ∈ writeWords r := by
        rw [hwords, hlen, hbase]
        exact List.mem_map.mpr ⟨k, hk, rfl⟩
      have hlt := List.mem_range.mp hk
      have haligned : (r.addr + BitVec.ofNat 32 (8 * k)).toNat % 8 = 0 := by
        have := r.addr.isLt
        rw [BitVec.toNat_add, BitVec.toNat_ofNat]
        omega
      rw [Function.comp, ← countP_newBytes_word h hes hmem haligned]
      refine List.countP_congr fun i _ => ?_
      simp only [Function.comp, BitVec.ofNat_add, BitVec.add_assoc]

end Sys2Proof.Machine

/-! SUPPORT. What staging a write whole and a coalesce-only write leave of the store, and the settled statements about them. -/

namespace Sys2Proof.Machine

/-! ### Staging a write whole (R7) -/

theorem openEntries_stageWhole (w : Window) (r : Request) (stamp : Stamp) (st : Store) :
    openEntries (stageWhole w r stamp st) = stageWords w (openEntries st) (carryingWords r) := by
  unfold stageWhole
  split
  · next h => rw [List.isEmpty_iff.mp h]; rfl
  · rfl

@[simp] theorem stageWhole_sealedGen (w : Window) (r : Request) (stamp : Stamp) (st : Store) :
    (stageWhole w r stamp st).sealedGen = st.sealedGen := by
  unfold stageWhole
  split <;> rfl

@[simp] theorem stageWhole_openNumber (w : Window) (r : Request) (stamp : Stamp) (st : Store) :
    (stageWhole w r stamp st).openNumber = st.openNumber := by
  unfold stageWhole
  split <;> rfl

theorem stageWhole_of_nothing {w : Window} {r : Request} {stamp : Stamp} {st : Store} (h : carryingWords r = []) :
    stageWhole w r stamp st = st := by
  simp [stageWhole, h]

/-- The body that a write with a carrying word leaves. -/
theorem stageWhole_openBody {w : Window} {r : Request} {stamp : Stamp} {st : Store} (h : carryingWords r ≠ []) :
    ∃ b, (stageWhole w r stamp st).openBody = some b ∧ b.lastWrite = stamp ∧
      (st.openBody = none → b.firstWrite = stamp ∧ b.deferral = 0) ∧
      ∀ o, st.openBody = some o → b.firstWrite = o.firstWrite ∧ b.deferral = o.deferral := by
  unfold stageWhole
  rw [if_neg (by simpa using h)]
  refine ⟨_, rfl, rfl, fun hnone => ?_, fun o ho => ?_⟩
  · simp [hnone]
  · simp [ho]

theorem need_eq (st : Store) (r : Request) : need st r = (unheld (openEntries st) (carryingWords r)).length := by
  rw [need, List.countP_eq_length_filter]
  rfl

@[simp] theorem allocations_length (w : Window) (es : List Entry) (ps : List (Word × Lanes)) :
    (allocations w es ps).length = (unheld es ps).length := by
  simp [allocations]

theorem stageWords_length {w : Window} {es : List Entry} {ps : List (Word × Lanes)}
    (distinct : (ps.map fun p => p.1).Nodup) :
    (stageWords w es ps).length = es.length + (unheld es ps).length := by
  rw [stageWords_eq_append w es distinct, List.length_append, List.length_map, allocations_length]

theorem openCount_stageWhole {w : Window} {r : Request} {stamp : Stamp} {st : Store} (h : r.wf = true) :
    openCount (stageWhole w r stamp st) = openCount st + need st r := by
  rw [openCount, openEntries_stageWhole, stageWords_length (carryingWords_nodup h), need_eq]
  rfl

/-- The window joins the set exactly where a word is allocated. -/
theorem openWindowSet_stageWhole {w : Window} {r : Request} {stamp : Stamp} {st : Store} (h : r.wf = true) :
    openWindowSet (stageWhole w r stamp st) =
      if unheld (openEntries st) (carryingWords r) = [] then openWindowSet st
      else openWindowSet st ||| windowBit w := by
  have hlen := stageWords_length (w := w) (es := openEntries st) (carryingWords_nodup h)
  unfold stageWhole
  split
  · next hnone => simp [unheld, List.isEmpty_iff.mp hnone]
  · have hiff : (stageWords w (openEntries st) (carryingWords r)).length = openCount st ↔
        unheld (openEntries st) (carryingWords r) = [] := by
      rw [hlen, ← List.length_eq_zero_iff, openCount]
      omega
    simp only [hiff]
    rfl

theorem getLsbD_windowBit (w v : Window) : (windowBit w).getLsbD v.val = (v == w) := by
  rw [windowBit, getLsbD_ofNat_two_pow, Bool.beq_eq_decide_eq, decide_eq_decide]
  exact ⟨fun h => Fin.ext h.symm, fun h => h ▸ rfl⟩

theorem carryingWords_lanes {r : Request} (h : r.wf = true) {p : Word × Lanes} (hp : p ∈ carryingWords r) :
    p.2.length = 8 :=
  writeWords_lanes h (mem_carryingWords.mp hp).1

/-- The bytes that staging adds are those of the range that were not pending. -/
theorem bytesOf_stageWhole {w : Window} {r : Request} {stamp : Stamp} {st : Store} (h : r.wf = true)
    (hes : ∀ e ∈ openEntries st, e.lanes.length = 8) (hdistinct : ((openEntries st).map fun e => e.addr).Nodup) :
    bytesOf (openEntries (stageWhole w r stamp st)) = bytesOf (openEntries st) +
      (rangeBytes r).countP fun a => (writeByte r a).isSome && (openByte st a).isNone := by
  rw [openEntries_stageWhole, bytesOf_stageWords w hes hdistinct (fun p hp => carryingWords_lanes h hp)
    (carryingWords_nodup h)]
  have hcount := countP_newBytes (c := fun _ => true) h hes
  simp only [if_true] at hcount
  rw [← hcount]
  rfl

/-- Settles O25: the entries after staging are the old ones with their words overlaid, and the allocated ones behind them;
bytes, counts and window set are read off that list. -/
theorem stagingWritesTheBytes : Obligations.StagingWritesTheBytes := by
  intro w r stamp st h hes
  refine ⟨fun a => ?bytes, openCount_stageWhole h, ?entries, ?order, fun hdistinct _ => bytesOf_stageWhole h hes hdistinct,
    fun v => ?windows, stageWhole_sealedGen .., stageWhole_openNumber .., stageWhole_of_nothing, stageWhole_openBody⟩
  case bytes =>
    rw [openByte_eq, openEntries_stageWhole,
      byteIn_stageWords w (carryingWords_nodup h) (fun p hp => carryingWords_lanes h hp) hes, writeByte_eq h]
    rfl
  case entries =>
    rw [openEntries_stageWhole, stageWords_eq_append w _ (carryingWords_nodup h)]
    rfl
  case order => exact (carryingWords_ascending (fits_of_wf h)).filter _
  case windows =>
    rw [openWindowSet_stageWhole h]
    change _ = (_ || (v == w && !(unheld (openEntries st) (carryingWords r)).isEmpty))
    cases hnew : unheld (openEntries st) (carryingWords r) with
    | nil => simp
    | cons p ps => rw [if_neg (by simp), BitVec.getLsbD_or, getLsbD_windowBit]; simp

/-! ### Coalesce-only writes (R8) -/

/-- Of the words of a write only those that an entry holds reach the entries. -/
theorem coalesced_held {es : List Entry} {ps : List (Word × Lanes)} (distinct : (ps.map fun p => p.1).Nodup) :
    es.map (coalesced (ps.filter fun p => holds es p.1)) = es.map (coalesced ps) := by
  refine List.map_congr_left fun e he => ?_
  have hheld : holds es e.addr = true := List.any_eq_true.mpr ⟨e, he, by simp⟩
  have hfind : (ps.filter fun p => holds es p.1).find? (fun p => p.1 == e.addr) = ps.find? fun p => p.1 == e.addr := by
    rw [find_filter_of_nodup distinct]
    cases hp : ps.find? (fun p => p.1 == e.addr) with
    | none => rfl
    | some p =>
      have haddr : p.1 = e.addr := by simpa using List.find?_some hp
      simp [Option.filter, haddr, hheld]
  rw [coalesced, hfind, coalesced]

theorem coalesced_nil : coalesced [] = id := rfl

/-- Some word of a coalesce-only write has an open entry. -/
def hitWords (st : Store) (r : Request) : List (Word × Lanes) :=
  (carryingWords r).filter fun p => hasOpen st p.1

theorem foldl_hitWords {r : Request} (h : r.wf = true) (st : Store) :
    (hitWords st r).foldl coalesceWord (openEntries st) = (openEntries st).map (coalesced (carryingWords r)) := by
  have hdistinct : ((hitWords st r).map fun p => p.1).Nodup :=
    (carryingWords_nodup h).sublist (List.Sublist.map _ List.filter_sublist)
  rw [foldl_coalesceWord _ _ hdistinct]
  exact coalesced_held (carryingWords_nodup h)

/-- A write none of whose words has an open entry changes nothing, and one that has changes entries and last write. -/
theorem coalesceOnly_cases (r : Request) (stamp : Stamp) (st : Store) :
    (hitWords st r = [] ∧ coalesceOnly r stamp st = st) ∨
    (hitWords st r ≠ [] ∧ ∃ b, st.openBody = some b ∧ coalesceOnly r stamp st =
      { st with
        openBody :=
          some { b with entries := (hitWords st r).foldl coalesceWord b.entries, lastWrite := stamp } }) := by
  unfold coalesceOnly
  cases hb : st.openBody with
  | none =>
    refine .inl ⟨?_, rfl⟩
    rw [hitWords, List.filter_eq_nil_iff]
    simp [hasOpen, openEntries, hb]
  | some b =>
    by_cases hhits : hitWords st r = []
    · exact .inl ⟨hhits, if_pos (by rw [List.isEmpty_iff]; exact hhits)⟩
    · exact .inr ⟨hhits, b, rfl, if_neg (by rw [List.isEmpty_iff]; exact hhits)⟩

theorem openEntries_of_body {st : Store} {b : OpenBody} (h : st.openBody = some b) : openEntries st = b.entries := by
  simp [openEntries, h]

theorem openEntries_coalesceOnly {r : Request} (h : r.wf = true) (stamp : Stamp) (st : Store) :
    openEntries (coalesceOnly r stamp st) = (openEntries st).map (coalesced (carryingWords r)) := by
  have hfold := foldl_hitWords h st
  obtain ⟨hnone, heq⟩ | ⟨-, b, hb, heq⟩ := coalesceOnly_cases r stamp st
  · rw [hnone] at hfold
    rw [heq, ← hfold]
    rfl
  · rw [heq, ← hfold, openEntries_of_body hb]
    rfl

@[simp] theorem coalesceOnly_keeps (r : Request) (stamp : Stamp) (st : Store) :
    openWindowSet (coalesceOnly r stamp st) = openWindowSet st ∧
      (coalesceOnly r stamp st).sealedGen = st.sealedGen ∧
      (coalesceOnly r stamp st).openNumber = st.openNumber := by
  obtain ⟨-, heq⟩ | ⟨-, b, hb, heq⟩ := coalesceOnly_cases r stamp st
  · simp [heq]
  · simp [heq, openWindowSet, hb]

theorem hasOpen_true_iff_mem_hitWords {st : Store} {r : Request} :
    hitWords st r = [] ↔ ∀ p ∈ carryingWords r, hasOpen st p.1 = false := by
  simp [hitWords, List.filter_eq_nil_iff]

/-- The bytes that a coalesce-only write adds are those of held words that were not pending. -/
theorem bytesOf_coalesceOnly {r : Request} {stamp : Stamp} {st : Store} (h : r.wf = true)
    (hes : ∀ e ∈ openEntries st, e.lanes.length = 8) (hdistinct : ((openEntries st).map fun e => e.addr).Nodup) :
    bytesOf (openEntries (coalesceOnly r stamp st)) = bytesOf (openEntries st) +
      (rangeBytes r).countP fun a =>
        hasOpen st (wordAddr a) && (writeByte r a).isSome && (openByte st a).isNone := by
  rw [openEntries_coalesceOnly h, bytesOf_coalesced hes hdistinct (fun p hp => carryingWords_lanes h hp)
    (carryingWords_nodup h)]
  exact congrArg _ (countP_newBytes (c := holds (openEntries st)) h hes).symm

/-- Settles O26: the entries are the old ones with their words overlaid, and nothing else of the store is written but the
last-write stamp. -/
theorem coalesceOnlyWritesHeldWords : Obligations.CoalesceOnlyWritesHeldWords := by
  intro r stamp st h hes
  obtain ⟨hset, hsealed, hnumber⟩ := coalesceOnly_keeps r stamp st
  refine ⟨fun a => ?bytes, ?count, openEntries_coalesceOnly h stamp st,
    fun hdistinct _ => bytesOf_coalesceOnly h hes hdistinct, hset, hsealed, hnumber, fun hno => ?none, fun hsome => ?some⟩
  case bytes =>
    rw [openByte_eq, openEntries_coalesceOnly h, byteIn_coalesced (fun p hp => carryingWords_lanes h hp) hes,
      writeByte_eq h, hasOpen_eq_holds, openByte_eq]
    split
    · rfl
    · next hno =>
      have hnone : (openEntries st).find? (fun e => e.addr == wordAddr a) = none := by
        rw [List.find?_eq_none]
        exact fun e he => List.any_eq_false.mp (Bool.not_eq_true _ ▸ hno) e he
      simp [byteIn, hnone]
  case count => rw [openCount, openEntries_coalesceOnly h, List.length_map, openCount]
  case none =>
    obtain ⟨-, heq⟩ | ⟨hhits, -⟩ := coalesceOnly_cases r stamp st
    · exact heq
    · exact absurd (hasOpen_true_iff_mem_hitWords.mpr (by simpa using hno)) hhits
  case some =>
    obtain ⟨hhits, -⟩ | ⟨-, b, hb, heq⟩ := coalesceOnly_cases r stamp st
    · obtain ⟨p, hp, hheld⟩ := List.any_eq_true.mp hsome
      rw [hasOpen_true_iff_mem_hitWords.mp hhits p hp] at hheld
      cases hheld
    · exact ⟨_, b, congrArg Store.openBody heq, hb, rfl, rfl, rfl⟩

end Sys2Proof.Machine

/-! SUPPORT. The spill write as the run between the first and the last remaining word, and the settled statement about it. -/

namespace Sys2Proof.Machine

/-! ### The words of a spill write (R55) -/

/-- What trimming leaves stands between words that carry nothing, and begins and ends with one that carries. -/
theorem trimWords_spec (ps : List (Word × Lanes)) :
    ∃ front back, ps = front ++ trimWords ps ++ back ∧
      (∀ p ∈ front, carries p.2 = false) ∧ (∀ p ∈ back, carries p.2 = false) ∧
      (∀ p, (trimWords ps).head? = some p → carries p.2 = true) ∧
      ∀ p, (trimWords ps).getLast? = some p → carries p.2 = true := by
  let empty : Word × Lanes → Bool := fun p => !carries p.2
  have htrim : trimWords ps = (ps.dropWhile empty).rdropWhile empty := rfl
  have hfront := List.takeWhile_append_dropWhile (p := empty) (l := ps)
  have hback := List.rdropWhile_append_rtakeWhile (p := empty) (l := ps.dropWhile empty)
  obtain ⟨rest, hprefix⟩ := List.rdropWhile_prefix empty (ps.dropWhile empty)
  refine ⟨ps.takeWhile empty, (ps.dropWhile empty).rtakeWhile empty, ?_, ?_, ?_, ?_, ?_⟩
  · rw [htrim, List.append_assoc, hback, hfront]
  · exact fun p hp => by simpa [empty] using List.mem_takeWhile_imp hp
  · exact fun p hp => by simpa [empty] using List.mem_rtakeWhile_imp hp
  · intro p hp
    have hhead : (ps.dropWhile empty).head? = some p := by
      rw [← hprefix, List.head?_append, ← htrim, hp]
      rfl
    have hnot := List.head?_dropWhile_not empty ps
    rw [hhead] at hnot
    simpa [empty] using hnot
  · intro p hp
    have hne : (ps.dropWhile empty).rdropWhile empty ≠ [] := by
      rw [← htrim]
      rintro hnil
      rw [hnil] at hp
      cases hp
    have hlast := List.rdropWhile_last_not empty (ps.dropWhile empty) hne
    rw [htrim, List.getLast?_eq_some_getLast hne] at hp
    obtain rfl := Option.some.inj hp
    simpa [empty] using hlast

/-- Trimming takes away words that carry nothing only. -/
theorem filter_trimWords (ps : List (Word × Lanes)) :
    (trimWords ps).filter (fun p => carries p.2) = ps.filter fun p => carries p.2 := by
  obtain ⟨front, back, hps, hfront, hback, -, -⟩ := trimWords_spec ps
  have hnone : ∀ qs : List (Word × Lanes), (∀ p ∈ qs, carries p.2 = false) → qs.filter (fun p => carries p.2) = [] :=
    fun qs h => List.filter_eq_nil_iff.mpr fun p hp => by simp [h p hp]
  conv_rhs => rw [hps]
  rw [List.filter_append, List.filter_append, hnone front hfront, hnone back hback]
  simp

/-- The first word of a trimmed run carries a byte, and so does the last. -/
theorem ends_filter_trimWords (ps : List (Word × Lanes)) :
    ((trimWords ps).filter fun p => carries p.2).head? = (trimWords ps).head? ∧
      ((trimWords ps).filter fun p => carries p.2).getLast? = (trimWords ps).getLast? := by
  obtain ⟨-, -, -, -, -, hhead, hlast⟩ := trimWords_spec ps
  constructor
  · cases h : trimWords ps with
    | nil => rfl
    | cons p qs => simp [hhead p (by rw [h]; rfl)]
  · obtain h | ⟨qs, p, h⟩ := List.eq_nil_or_concat' (trimWords ps)
    · rw [h]; rfl
    · simp [h, hlast p (by rw [h]; simp)]

/-- A part of a list that is given by index is given by index. -/
theorem middle_of_map_range {α : Type} {n : Nat} {f : Nat → α} {front mid back : List α}
    (h : (List.range n).map f = front ++ mid ++ back) :
    front.length + mid.length ≤ n ∧ mid = (List.range mid.length).map fun k => f (front.length + k) := by
  have hlen := congrArg List.length h
  simp only [List.length_map, List.length_range, List.length_append] at hlen
  refine ⟨by omega, List.ext_getElem (by simp) fun k h1 h2 => ?_⟩
  have hk : ((List.range n).map f)[front.length + k]? = (front ++ mid ++ back)[front.length + k]? := by rw [h]
  rw [List.append_assoc, List.getElem?_append_right (by omega), Nat.add_sub_cancel_left,
    List.getElem?_append_left h1, List.getElem?_eq_getElem h1] at hk
  have hn : front.length + k < n := by omega
  simp only [List.getElem?_map, List.getElem?_range hn, Option.map_some, Option.some.injEq] at hk
  simp [hk]

/-- The words of a write with those that do not remain emptied (R55). -/
def spillWords (r : Request) (remaining : List (Word × Lanes)) : List (Word × Lanes) :=
  (writeWords r).map fun p => if remaining.any fun q => q.1 == p.1 then p else (p.1, emptyLanes)

theorem spillRequest_of_words {r : Request} {n : Nat} (h : r.len = .words n) (remaining : List (Word × Lanes)) :
    spillRequest r remaining =
      { addr := ((trimWords (spillWords r remaining)).head?.map fun p => p.1).getD r.addr
        len := .words (trimWords (spillWords r remaining)).length
        payload := .write ((trimWords (spillWords r remaining)).map fun p => p.2) } := by
  simp only [spillRequest, h, spillWords]
  generalize trimWords _ = ps
  cases ps <;> rfl

theorem spillRequest_of_sub {r : Request} {n : Nat} (h : r.len = .sub n) (remaining : List (Word × Lanes)) :
    spillRequest r remaining = r := by
  rw [spillRequest, h]

/-- The remaining words are those of the spill write that carry a byte. -/
theorem filter_spillWords {r : Request} (h : r.wf = true) (c : Word → Bool) :
    (spillWords r ((carryingWords r).filter fun p => c p.1)).filter (fun p => carries p.2) =
      (carryingWords r).filter fun p => c p.1 := by
  have hany : ∀ p ∈ writeWords r, (((carryingWords r).filter fun p => c p.1).any fun q => q.1 == p.1) =
      (carries p.2 && c p.1) := by
    intro p hp
    rw [Bool.eq_iff_iff, List.any_eq_true, Bool.and_eq_true]
    constructor
    · rintro ⟨q, hq, hqp⟩
      obtain ⟨hq, hc⟩ := List.mem_filter.mp hq
      obtain ⟨hq, hcarries⟩ := mem_carryingWords.mp hq
      obtain rfl := List.inj_on_of_nodup_map (writeWords_nodup h) hq hp (beq_iff_eq.mp hqp)
      exact ⟨hcarries, hc⟩
    · rintro ⟨hcarries, hc⟩
      exact ⟨p, List.mem_filter.mpr ⟨mem_carryingWords.mpr ⟨hp, hcarries⟩, hc⟩, beq_self_eq_true _⟩
  have hboth : (carryingWords r).filter (fun p => c p.1) = (writeWords r).filter fun p => carries p.2 && c p.1 := by
    simp only [carryingWords, List.filter_filter, Bool.and_comm]
  conv_rhs => rw [hboth]
  rw [spillWords]
  generalize (carryingWords r).filter (fun p => c p.1) = rem at hany ⊢
  generalize writeWords r = ps at hany ⊢
  induction ps with
  | nil => rfl
  | cons p ps ih =>
    have hp := hany p (List.mem_cons_self ..)
    have hrest := ih fun q hq => hany q (List.mem_cons_of_mem _ hq)
    have hempty : carries emptyLanes = false := rfl
    cases hcarries : carries p.2 <;> cases hc : c p.1 <;>
      simp [hp, hcarries, hc, hempty, hrest]

/-- A run of words within a line, given by its first address and its lanes, and the request that writes it. -/
structure SpillRun (r : Request) (ps : List (Word × Lanes)) (q : Request) : Prop where
  wf : q.wf = true
  words : writeWords q = ps
  range : rangeWords q = ps.map fun p => p.1

theorem spillRun_of_words {r : Request} (h : r.wf = true) {n : Nat} (hn : r.len = .words n)
    {remaining : List (Word × Lanes)} (hne : trimWords (spillWords r remaining) ≠ []) :
    SpillRun r (trimWords (spillWords r remaining)) (spillRequest r remaining) := by
  obtain ⟨m, hlen, -⟩ | ⟨m, hlen, hpos, hle, halign, hline⟩ := fits_cases (fits_of_wf h)
  · rw [hn] at hlen; cases hlen
  obtain rfl : n = m := by rw [hn] at hlen; exact Length.words.inj hlen
  cases hr : r.payload with
  | read =>
    have hnil : trimWords (spillWords r remaining) = [] := by simp [spillWords, writeWords, hr, trimWords]
    exact absurd hnil hne
  | write ws =>
    obtain ⟨hws, hwords⟩ := writeWords_of_write h hr
    have hbase : wordAddr r.addr = r.addr := by
      refine BitVec.eq_of_toNat_eq ?_
      rw [wordAddr_toNat]
      omega
    obtain ⟨front, back, hsplit, -⟩ := trimWords_spec (spillWords r remaining)
    have hlanes : ∀ p ∈ spillWords r remaining, p.2.length = 8 := by
      intro p hp
      obtain ⟨x, hx, rfl⟩ := List.mem_map.mp hp
      split
      · exact writeWords_lanes h hx
      · rfl
    have hspill : (spillWords r remaining).map (fun p => p.1) =
        (List.range n).map fun k => r.addr + BitVec.ofNat 32 (8 * k) := by
      rw [spillWords, List.map_map, hwords, hn, hbase, List.map_map, Length.wordCount]
      refine List.map_congr_left fun k _ => ?_
      simp only [Function.comp]
      split <;> rfl
    generalize htrim : trimWords (spillWords r remaining) = ps at hne hsplit ⊢
    rw [hsplit, List.map_append, List.map_append] at hspill
    obtain ⟨hfit, haddr⟩ := middle_of_map_range hspill.symm
    simp only [List.length_map] at hfit haddr
    have hone : 1 ≤ ps.length := List.length_pos_iff.mpr hne
    have hfirst : ((ps.head?.map fun p => p.1).getD r.addr) = r.addr + BitVec.ofNat 32 (8 * front.length) := by
      cases ps with
      | nil => exact absurd rfl hne
      | cons p ps =>
        rw [List.length_cons, List.range_succ_eq_map] at haddr
        simp only [List.map_cons, List.cons.injEq] at haddr
        exact haddr.1
    have hstart : (r.addr + BitVec.ofNat 32 (8 * front.length)).toNat = r.addr.toNat + 8 * front.length := by
      have hlt := r.addr.isLt
      rw [BitVec.toNat_add, BitVec.toNat_ofNat]
      omega
    have hq := spillRequest_of_words hn remaining
    rw [htrim, hfirst] at hq
    have hrange : rangeWords (spillRequest r remaining) = ps.map fun p => p.1 := by
      rw [hq, haddr]
      refine List.map_congr_left fun k _ => ?_
      have hword : wordAddr (r.addr + BitVec.ofNat 32 (8 * front.length)) =
          r.addr + BitVec.ofNat 32 (8 * front.length) := by
        refine BitVec.eq_of_toNat_eq ?_
        rw [wordAddr_toNat, hstart]
        omega
      rw [hword, BitVec.add_assoc, Nat.mul_add, BitVec.ofNat_add]
    refine ⟨?_, ?_, hrange⟩
    · have hall : (ps.map fun p => p.2).all lanesWf = true := by
        rw [List.all_eq_true]
        intro l hl
        obtain ⟨p, hp, rfl⟩ := List.mem_map.mp hl
        simp [lanesWf, hlanes p (hsplit ▸ by simp [hp])]
      rw [hq]
      simp only [Request.wf, Length.fits, Length.wf, Length.alignment, Length.bytes, payloadWf, Length.wordCount,
        List.length_map, hall, hstart, Bool.and_eq_true, decide_eq_true_eq, beq_iff_eq, and_true]
      omega
    · have hpay : (spillRequest r remaining).payload = .write (ps.map fun p => p.2) := by rw [hq]
      rw [writeWords, hpay, hrange]
      simp [List.zip_map']

/-- A sub-word write has one word at most. -/
theorem carryingWords_of_sub {r : Request} {n : Nat} (h : r.len = .sub n) : (carryingWords r).length ≤ 1 := by
  refine Nat.le_trans (List.length_filter_le ..) ?_
  unfold writeWords
  cases r.payload <;> simp [h, Length.wordCount]

/-- Settles O27: a spill write of whole words is the run between the first and the last remaining word; of a sub-word write
the one word that it carries remains. -/
theorem spillWriteCarriesTheRemainingWords : Obligations.SpillWriteCarriesTheRemainingWords := by
  intro r st h remaining hne
  have hfilter : (spillWords r remaining).filter (fun p => carries p.2) = remaining :=
    filter_spillWords h fun a => !hasOpen st a
  obtain ⟨n, hn, -⟩ | ⟨n, hn, -⟩ := fits_cases (fits_of_wf h)
  · rw [spillRequest_of_sub hn]
    refine ⟨h, ?_, fun _ _ => rfl, fun m hm => by rw [hn] at hm; cases hm⟩
    have hsub : remaining.Sublist (carryingWords r) := List.filter_sublist
    refine (hsub.eq_of_length_le ?_).symm
    have hpos : 1 ≤ remaining.length := List.length_pos_iff.mpr hne
    have hone := carryingWords_of_sub hn
    omega
  · have htrim : (trimWords (spillWords r remaining)).filter (fun p => carries p.2) = remaining := by
      rw [filter_trimWords, hfilter]
    have hsome : trimWords (spillWords r remaining) ≠ [] := by
      intro hnil
      rw [hnil] at htrim
      exact hne htrim.symm
    obtain ⟨hwf, hwords, hrange⟩ := spillRun_of_words h hn hsome
    obtain ⟨hhead, hlast⟩ := ends_filter_trimWords (spillWords r remaining)
    refine ⟨hwf, by rw [carryingWords, hwords, htrim], fun m hm => (by rw [hn] at hm; cases hm), fun m _ => ⟨?_, ?_⟩⟩
    · rw [hrange, List.head?_map, ← hhead, htrim]
    · rw [hrange, List.getLast?_map, ← hlast, htrim]

end Sys2Proof.Machine

/-! SUPPORT. The laws that every step keeps, each reduced to the blocks it speaks of, and the relation that an operation
keeps all of them. -/

namespace Sys2Proof.Machine

/-! ### A law speaks of its blocks only -/

theorem AttentionLaw.of_eq {s t : State} (law : AttentionLaw s) (h : t.attention = s.attention) : AttentionLaw t := by
  unfold AttentionLaw
  rw [h]
  exact law

theorem RingLaw.of_eq {s t : State} (law : RingLaw s) (h : t.ring = s.ring) : RingLaw t := by
  unfold RingLaw
  rw [h]
  exact law

theorem TagLaw.of_eq {s t : State} (law : TagLaw s) (inFlight : t.dport.inFlight = s.dport.inFlight)
    (stale : t.dport.stale = s.dport.stale) : TagLaw t := by
  unfold TagLaw tagsInUse
  rw [inFlight, stale]
  exact law

theorem WindowLaw.of_eq {s t : State} (law : WindowLaw s) (active : t.windows.active = s.windows.active)
    (shadow : t.windows.shadow = s.windows.shadow) : WindowLaw t := by
  obtain ⟨hactive, hshadow, hformed, hshadowFormed, hnone⟩ := law
  constructor <;> simpa [active, shadow]

/-- The settings, each kept or still within its range. -/
theorem SettingsLaw.of_parts {s t : State} (law : SettingsLaw s)
    (stallLimit : t.uport.stallLimit = s.uport.stallLimit := by simp)
    (dsTimeout : t.dport.dsTimeout = s.dport.dsTimeout := by simp)
    (retryLimit : t.dport.retryLimit = s.dport.retryLimit := by simp)
    (drainShare : t.dport.drainShare = s.dport.drainShare := by simp)
    (shareCounter : s.dport.shareCounter ≤ Config.shareMax → t.dport.shareCounter ≤ Config.shareMax := by simp)
    (holdLimit : t.sealing.holdLimit = s.sealing.holdLimit := by simp)
    (holdCount : s.sealing.holdCount ≤ 255 ∧ (s.sealing.hold = .held → s.sealing.holdCount < 255) →
      t.sealing.holdCount ≤ 255 ∧ (t.sealing.hold = .held → t.sealing.holdCount < 255) := by simp)
    (activeSet : ActiveSetLaw s.timer.active → ActiveSetLaw t.timer.active := by simp)
    (shadowSet : t.timer.shadow = s.timer.shadow := by simp)
    (parameters : ParameterLaw s.tracker → ParameterLaw t.tracker := by simp) : SettingsLaw t where
  stallLimit := stallLimit ▸ law.stallLimit
  dsTimeout := dsTimeout ▸ law.dsTimeout
  retryLimit := retryLimit ▸ law.retryLimit
  drainShare := drainShare ▸ law.drainShare
  shareCounter := shareCounter law.shareCounter
  holdLimit := holdLimit ▸ law.holdLimit
  holdCount := holdCount law.holdCount
  activeSet := activeSet law.activeSet
  shadowSet := shadowSet ▸ law.shadowSet
  parameters := parameters law.parameters

theorem UPortLaw.of_eq {s t : State} (law : UPortLaw s) (uport : t.uport = s.uport) (srstn : t.srstn = s.srstn)
    (body : s.store.openBody = none → t.store.openBody = none) : UPortLaw t := by
  obtain ⟨hdepth, hformed, hclosed, hopen, horder, hserials, hnext⟩ := law
  constructor
  · rwa [uport]
  · rwa [uport]
  · rw [uport]
    intro h
    obtain ⟨hurq, hissue, hstall, hbody⟩ := hclosed h
    exact ⟨hurq, hissue, hstall, body hbody⟩
  · rwa [uport, srstn]
  · rwa [uport]
  · rwa [uport]
  · rwa [uport]

theorem StoreLaw.of_eq {s t : State} (law : StoreLaw s) (h : t.store = s.store) : StoreLaw t := by
  obtain ⟨hslots, hbody, hpositions, hwords, hsealed, hopen, hformed, hwindows⟩ := law
  constructor <;> rwa [h]

theorem DrainLaw.of_eq {s t : State} (law : DrainLaw s) (store : t.store.sealedGen = s.store.sealedGen)
    (drain : t.drain = s.drain) (inFlight : t.dport.inFlight = s.dport.inFlight) : DrainLaw t := by
  have hpositions : drainPositions t.dport = drainPositions s.dport := by
    unfold drainPositions
    rw [inFlight]
  obtain ⟨hone, horphan, habsent, hpresent⟩ := law
  refine ⟨by rwa [hpositions], by rwa [inFlight], by rwa [store, drain, hpositions], fun g hg => ?_⟩
  obtain ⟨c, hcursor, hlaw⟩ := hpresent g (store ▸ hg)
  obtain ⟨hremaining, hcounts, hordered, hrange, hnever, habove, hcursorRange, hflight⟩ := hlaw
  exact ⟨c, by rw [drain, hcursor],
    ⟨hremaining, hcounts, hordered, hrange, hnever, habove, hcursorRange, by rwa [hpositions]⟩⟩

/-! ### Operations that keep the laws -/

/-- Every law but the Drain Engine's that holds of s holds of t, and the queue stays. A field that is not given is one whose
blocks the operation leaves as they were. -/
structure KeepsMost (s t : State) : Prop where
  queue : t.pending = s.pending := by simp
  attention : AttentionLaw s → AttentionLaw t := by exact fun h => h.of_eq (by simp)
  ring : RingLaw s → RingLaw t := by exact fun h => h.of_eq (by simp)
  tags : TagLaw s → TagLaw t := by exact fun h => h.of_eq (by simp) (by simp)
  windows : WindowLaw s → WindowLaw t := by exact fun h => h.of_eq (by simp) (by simp)
  settings : SettingsLaw s → SettingsLaw t := by exact fun h => h.of_parts
  uport : UPortLaw s → UPortLaw t := by exact fun h => h.of_eq (by simp) (by simp) (by simp)
  store : UPortLaw s → StoreLaw s → StoreLaw t := by exact fun _ h => h.of_eq (by simp)

/-- Every law that holds of s holds of t, and the queue stays: the Drain Engine's law under the laws that it needs. -/
structure Keeps (s t : State) : Prop extends KeepsMost s t where
  drain : TagLaw s → UPortLaw s → StoreLaw s → DrainLaw s → DrainLaw t := by
    exact fun _ _ _ h => h.of_eq (by simp) (by simp) (by simp)

theorem KeepsMost.trans {s t u : State} (h : KeepsMost s t) (k : KeepsMost t u) : KeepsMost s u where
  queue := k.queue.trans h.queue
  attention l := k.attention (h.attention l)
  ring l := k.ring (h.ring l)
  tags l := k.tags (h.tags l)
  windows l := k.windows (h.windows l)
  settings l := k.settings (h.settings l)
  uport l := k.uport (h.uport l)
  store p l := k.store (h.uport p) (h.store p l)

theorem Keeps.refl (s : State) : Keeps s s := {}

theorem Keeps.trans {s t u : State} (h : Keeps s t) (k : Keeps t u) : Keeps s u where
  toKeepsMost := h.toKeepsMost.trans k.toKeepsMost
  drain g p l d := k.drain (h.tags g) (h.uport p) (h.store p l) (h.drain g p l d)

/-! ### Updates of one block -/

theorem keeps_setAttention {s : State} (x : Attention) (law : x.asserted = attentionPending x) :
    Keeps s (s.setAttention x) :=
  { attention := fun _ => law }

theorem keeps_setRing {s : State} (x : List RingEntry) (law : RingLaw s → RingLaw (s.setRing x)) :
    Keeps s (s.setRing x) :=
  { ring := law }

theorem keeps_setWindows {s : State} (x : WindowTable) (law : WindowLaw s → WindowLaw (s.setWindows x)) :
    Keeps s (s.setWindows x) :=
  { windows := law }

theorem keeps_setSealing {s : State} (x : SealControl) (law : SettingsLaw s → SettingsLaw (s.setSealing x)) :
    Keeps s (s.setSealing x) :=
  { settings := law }

theorem keeps_setTimer {s : State} (x : FrameTimer) (law : SettingsLaw s → SettingsLaw (s.setTimer x)) :
    Keeps s (s.setTimer x) :=
  { settings := law }

theorem keeps_setTracker {s : State} (x : Tracker) (law : ParameterLaw s.tracker → ParameterLaw x) :
    Keeps s (s.setTracker x) :=
  { settings := fun h => h.of_parts (parameters := law) }

theorem keeps_setSync (s : State) (x : SyncInput) : Keeps s (s.setSync x) := {}
theorem keeps_setManagement (s : State) (x : Management) : Keeps s (s.setManagement x) := {}
theorem keeps_setDrawn (s : State) (x : Nat) : Keeps s (s.setDrawn x) := {}
theorem keeps_setNow (s : State) (x : Nat) : Keeps s (s.setNow x) := {}

/-! ### Raises and the other operations of the Attention Unit (R156 to R160) -/

theorem keeps_raiseCause (c : Cause) (s : State) : Keeps s (raiseCause c s) := keeps_setAttention _ rfl
theorem keeps_acknowledgeCauses (m : Half) (s : State) : Keeps s (acknowledgeCauses m s) := keeps_setAttention _ rfl
theorem keeps_replaceEnableSet (m : Half) (s : State) : Keeps s (replaceEnableSet m s) := keeps_setAttention _ rfl

theorem keeps_raiseAll (cs : List Cause) (s : State) : Keeps s (raiseAll cs s) := by
  unfold raiseAll
  induction cs generalizing s with
  | nil => exact Keeps.refl s
  | cons c cs ih => exact (keeps_raiseCause c s).trans (ih (raiseCause c s))

/-! ### Commit records (R142 to R144, R150) -/

/-- Records that were in front before stay in front: a new one is unread and stands at the tail. -/
theorem pairwise_append_unread {ring : List RingEntry}
    (h : ring.Pairwise fun a b => b.isRead = true → a.isRead = true) (r : CommitRecord) :
    (ring ++ [({ record := r, isRead := false } : RingEntry)]).Pairwise fun a b => b.isRead = true → a.isRead = true := by
  rw [List.pairwise_append]
  refine ⟨h, List.pairwise_singleton .., fun a _ b hb => ?_⟩
  obtain rfl := List.mem_singleton.mp hb
  exact fun k => absurd k (by simp)

theorem keeps_appendRecord (r : CommitRecord) (s : State) : Keeps s (appendRecord r s) := by
  refine keeps_setRing _ fun ⟨hlength, hpairwise⟩ => ?_
  have hsize : Config.ringSize = 16 := rfl
  unfold RingLaw
  rw [State.setRing_ring]
  split
  · next hfull =>
    refine ⟨?_, pairwise_append_unread (hpairwise.sublist (List.drop_sublist ..)) r⟩
    simp only [List.length_append, List.length_drop, List.length_singleton]
    omega
  · next hroom =>
    refine ⟨?_, pairwise_append_unread hpairwise r⟩
    simp only [List.length_append, List.length_singleton]
    omega

/-- What READ_RECORD finds: a first record behind the read ones, which it marks. -/
theorem readOldest_cases (ring : List RingEntry) :
    (readOldest ring = none ∧ ∀ e ∈ ring, e.isRead = true) ∨
    ∃ front e back, ring = front ++ e :: back ∧ (∀ x ∈ front, x.isRead = true) ∧ e.isRead = false ∧
      readOldest ring = some (e.record, front ++ { e with isRead := true } :: back) := by
  induction ring with
  | nil => exact .inl ⟨rfl, by simp⟩
  | cons e rest ih =>
    cases hread : e.isRead with
    | false => exact .inr ⟨[], e, rest, rfl, by simp, hread, by simp [readOldest, hread]⟩
    | true =>
      obtain ⟨hnone, hall⟩ | ⟨front, x, back, hrest, hfront, hx, hsome⟩ := ih
      · exact .inl ⟨by simp [readOldest, hread, hnone], by simpa [hread] using hall⟩
      · exact .inr ⟨e :: front, x, back, by rw [hrest]; rfl, by simpa [hread] using hfront, hx,
          by simp [readOldest, hread, hsome]⟩

/-- Marking the first unread record keeps the read ones in front. -/
theorem pairwise_mark {front back : List RingEntry} {e : RingEntry} (hfront : ∀ x ∈ front, x.isRead = true)
    (h : (front ++ e :: back).Pairwise fun a b => b.isRead = true → a.isRead = true) :
    (front ++ { e with isRead := true } :: back).Pairwise fun a b => b.isRead = true → a.isRead = true := by
  rw [List.pairwise_append, List.pairwise_cons] at h ⊢
  obtain ⟨hf, ⟨-, hb⟩, -⟩ := h
  exact ⟨hf, ⟨fun _ _ _ => rfl, hb⟩, fun a ha _ _ _ => hfront a ha⟩

theorem keeps_readRecord (s : State) : Keeps s (readRecord s).1 := by
  unfold readRecord
  obtain ⟨hnone, -⟩ | ⟨front, e, back, hring, hfront, -, hsome⟩ := readOldest_cases s.ring
  · rw [hnone]
    exact Keeps.refl s
  · rw [hsome]
    refine keeps_setRing _ fun ⟨hlength, hpairwise⟩ => ?_
    rw [hring] at hlength hpairwise
    exact ⟨by simpa using hlength, pairwise_mark hfront hpairwise⟩

end Sys2Proof.Machine

/-! SUPPORT. Seals, applies, permission return and frame boundaries keep the laws. -/

namespace Sys2Proof.Machine

/-! ### The apply (R34 to R36) -/

theorem keeps_performApply (s : State) : Keeps s (performApply s) := by
  unfold performApply
  split
  · next hvalid =>
    refine (keeps_setWindows _ fun law => ?_).trans (keeps_raiseCause _ _)
    exact ⟨law.shadowLength, law.shadowLength, law.shadowFormed, law.shadowFormed, hvalid⟩
  · refine Keeps.trans ?_ (keeps_raiseCause _ _)
    exact keeps_setWindows _ fun law => law.of_eq rfl rfl

/-! ### The slots (R1) -/

/-- The three numbers of R1 make 512 exactly where the entries fit. -/
theorem slots_iff (st : Store) :
    openCount st + sealedRemaining st + freeSlots st = Config.slotCount ↔
      openCount st + sealedRemaining st ≤ Config.slotCount := by
  unfold freeSlots
  omega

/-! ### Seals (R10, R11, R63) -/

theorem performSeal_of_body {cause : SealCause} {stamp : Stamp} {s : State} {b : OpenBody}
    (h : s.store.openBody = some b) :
    performSeal cause stamp s =
      (s.setStore { openNumber := s.store.openNumber + 1#32, openBody := none,
                    sealedGen := some (sealedFrom cause stamp s b) }).setDrain { cursor := some 1, urgent := false } := by
  simp [performSeal, h]

theorem performSeal_of_empty {cause : SealCause} {stamp : Stamp} {s : State} (h : s.store.openBody = none) :
    performSeal cause stamp s = s := by
  simp [performSeal, h]

@[simp] theorem openEntries_none {st : Store} (h : st.openBody = none) : openEntries st = [] := by
  simp [openEntries, h]

theorem openCount_of_body {st : Store} {b : OpenBody} (h : st.openBody = some b) : openCount st = b.entries.length := by
  rw [openCount, openEntries_of_body h]

/-- A seal moves the open entries to the sealed side. -/
theorem StoreLaw.performSeal {cause : SealCause} {stamp : Stamp} {s : State} (law : StoreLaw s) :
    StoreLaw (performSeal cause stamp s) := by
  cases hb : s.store.openBody with
  | none => rwa [performSeal_of_empty hb]
  | some b =>
    obtain ⟨hslots, -, -, hwords, -, hformed, -, -⟩ := law
    rw [slots_iff, openCount_of_body hb] at hslots
    rw [openEntries_of_body hb] at hwords hformed
    rw [performSeal_of_body hb]
    constructor
    case slots =>
      rw [slots_iff]
      simp only [openCount, openEntries, sealedRemaining, sealedEntries, sealedFrom, State.setDrain_store,
        State.setStore_store, List.length_nil, List.length_map]
      omega
    case sealedWords => simpa [sealedEntries, sealedFrom, Function.comp_def] using hwords
    case sealedFormed => simpa [sealedEntries, sealedFrom] using hformed
    case body => simp
    case openPositions => rfl
    case openWords => simp [openEntries]
    case openFormed => simp [openEntries]
    case openWindows => simp

/-- With no drain write in flight the new sealed generation has the law, its cursor at 1. -/
theorem sealedLaw_sealedFrom {cause : SealCause} {stamp : Stamp} {s : State} {b : OpenBody} (law : StoreLaw s)
    (hb : s.store.openBody = some b) {d : DPort} (hd : drainPositions d = []) :
    SealedLaw (sealedFrom cause stamp s b) 1 d := by
  have hpositions := law.openPositions
  rw [openEntries_of_body hb, openCount_of_body hb] at hpositions
  have hrange : ∀ p, p ∈ b.entries.map (fun e => e.position) ↔ 1 ≤ p ∧ p ≤ b.entries.length := by
    intro p
    rw [hpositions, List.mem_range'_1]
    omega
  constructor
  case remaining => simpa [sealedFrom] using law.body b hb
  case counts => simp [sealedFrom]
  case ordered =>
    have hsorted : (b.entries.map fun e => e.position).Pairwise (· < ·) := by
      rw [hpositions]
      exact List.pairwise_lt_range'
    simpa [sealedFrom, Function.comp_def] using hsorted
  case inRange =>
    intro x hx
    obtain ⟨e, he, rfl⟩ := List.mem_map.mp hx
    exact (hrange e.position).mp (List.mem_map_of_mem he)
  case neverIssued =>
    intro x hx
    obtain ⟨e, he, rfl⟩ := List.mem_map.mp hx
    have hpos := ((hrange e.position).mp (List.mem_map_of_mem he)).1
    simpa using hpos
  case allAbove =>
    intro p hp hle
    obtain ⟨e, he, rfl⟩ := List.mem_map.mp ((hrange p).mpr ⟨hp, hle⟩)
    exact ⟨_, List.mem_map_of_mem he, rfl⟩
  case cursorRange => exact ⟨Nat.le_refl 1, Nat.le_add_left ..⟩
  case inFlight => simp [hd, sealedFrom]

/-- Store and drain steps of a seal, taken while no sealed generation exists (R123). -/
theorem keeps_performSeal (cause : SealCause) (stamp : Stamp) (s : State) (hfree : s.store.sealedGen = none) :
    Keeps s (performSeal cause stamp s) where
  uport law := by
    refine law.of_eq (by simp) (by simp) fun hnone => ?_
    rw [performSeal_of_empty hnone, hnone]
  store _ law := law.performSeal
  drain _ _ store law := by
    cases hb : s.store.openBody with
    | none => rwa [performSeal_of_empty hb]
    | some b =>
      obtain ⟨-, -, hnone⟩ := law.absent hfree
      rw [performSeal_of_body hb]
      refine ⟨law.oneEach, law.noOrphan, by simp, fun g hg => ⟨1, rfl, ?_⟩⟩
      obtain rfl : sealedFrom cause stamp s b = g := by simpa using hg
      exact sealedLaw_sealedFrom store hb hnone

/-! ### The Seal Controller's flags (R124, R125, R127) -/

/-- The settings do not bear on the owed-seal and the commit-now flag. -/
theorem keeps_setSealing_of_flags {s : State} {x : SealControl}
    (h : withoutSealFlags x = withoutSealFlags s.sealing) : Keeps s (s.setSealing x) := by
  obtain ⟨hhold, hcount, -, hlimit, -⟩ := (withoutSealFlags_eq_iff x s.sealing).mp h
  refine keeps_setSealing x fun law => law.of_parts (holdLimit := hlimit) (holdCount := ?_)
  simp [hhold, hcount]

theorem keeps_clearOwed (s : State) : Keeps s (clearOwed s) := keeps_setSealing_of_flags rfl

theorem keeps_clearSealFlags (c : SealCause) (s : State) : Keeps s (clearSealFlags c s) :=
  keeps_setSealing_of_flags rfl

/-! ### Seals and seal points (R124, R125) -/

theorem keeps_takeSeal (cause : SealCause) (stamp : Stamp) (s : State) (hfree : s.store.sealedGen = none) :
    Keeps s (takeSeal cause stamp s) := by
  unfold takeSeal
  refine ((keeps_performSeal cause stamp s hfree).trans ?_).trans (keeps_clearSealFlags ..)
  split
  · exact keeps_performApply _
  · exact Keeps.refl _

theorem keeps_takeEmptyPoint (s : State) : Keeps s (takeEmptyPoint s) := by
  unfold takeEmptyPoint
  split
  · exact (keeps_performApply s).trans (keeps_clearOwed _)
  · exact keeps_clearOwed s

/-- The deferral count is in no law. -/
theorem keeps_countDeferral (s : State) : Keeps s (s.setStore (countDeferral s.store)) where
  uport law := law.of_eq (by simp) (by simp) fun h => by simp [countDeferral, h]
  store _ law := by
    obtain ⟨hslots, hbody, hpositions, hwords, hsealed, hopen, hformed, hwindows⟩ := law
    have hentries : openEntries (countDeferral s.store) = openEntries s.store := by
      unfold openEntries countDeferral
      cases s.store.openBody <;> rfl
    have hsealedEntries : sealedEntries (countDeferral s.store) = sealedEntries s.store := rfl
    have hbodies : ∀ b, (countDeferral s.store).openBody = some b →
        ∃ o, s.store.openBody = some o ∧ b.entries = o.entries ∧ b.windowSet = o.windowSet := by
      intro b hb
      obtain ⟨o, ho, rfl⟩ := Option.map_eq_some_iff.mp hb
      exact ⟨o, ho, rfl, rfl⟩
    constructor
    case slots => rwa [slots_iff, State.setStore_store, openCount, sealedRemaining, hentries, hsealedEntries, ← openCount,
      ← sealedRemaining, ← slots_iff]
    case body =>
      intro b hb
      obtain ⟨o, ho, hes, -⟩ := hbodies b hb
      rw [hes]
      exact hbody o ho
    case openPositions => rwa [State.setStore_store, openCount, hentries]
    case openWords => rwa [State.setStore_store, hentries]
    case sealedWords => exact hsealed
    case openFormed => rwa [State.setStore_store, hentries]
    case sealedFormed => exact hformed
    case openWindows =>
      intro b hb
      obtain ⟨o, ho, hes, hset⟩ := hbodies b hb
      rw [hes, hset]
      exact hwindows o ho
  drain _ _ _ law := law.of_eq (by simp [countDeferral]) (by simp) (by simp)

/-- What a refused seal point writes, without the cause: the owed-seal flag where work waits, and the deferral count of a
non-empty open generation (R125). -/
def refusedPoint (s : State) : State :=
  (s.setSealing { s.sealing with owed := s.sealing.owed || (!openEmpty s.store || applyArmed s) }).setStore
    (if openEmpty s.store then s.store else countDeferral s.store)

theorem refuseSealPoint_eq (s : State) :
    refuseSealPoint s =
      if s.store.sealedGen.isSome then raiseCause .overrun (refusedPoint s) else refusedPoint s := by
  unfold refuseSealPoint refusedPoint
  cases hempty : openEmpty s.store <;> cases harmed : applyArmed s <;> simp <;> rfl

theorem keeps_refusedPoint (s : State) : Keeps s (refusedPoint s) := by
  have hflag : Keeps s (s.setSealing
      { s.sealing with owed := s.sealing.owed || (!openEmpty s.store || applyArmed s) }) :=
    keeps_setSealing_of_flags rfl
  refine hflag.trans ?_
  unfold refusedPoint
  split
  · exact Keeps.refl _
  · exact keeps_countDeferral _

theorem keeps_refuseSealPoint (s : State) : Keeps s (refuseSealPoint s) := by
  rw [refuseSealPoint_eq]
  split
  · exact (keeps_refusedPoint s).trans (keeps_raiseCause _ _)
  · exact keeps_refusedPoint s

theorem commandPermission_iff (s : State) :
    commandPermission s = true ↔ s.store.sealedGen = none ∧ s.sealing.hold = .notHeld ∧ s.srstn = .high := by
  simp [commandPermission, and_assoc]

theorem framePermission_iff (s : State) :
    framePermission s = true ↔ commandPermission s = true ∧ gateOpen s = true := by
  simp [framePermission]

theorem free_of_framePermission {s : State} (h : framePermission s = true) : s.store.sealedGen = none :=
  ((commandPermission_iff s).mp ((framePermission_iff s).mp h).1).1

theorem keeps_offerSealPoint (cause : SealCause) (stamp : Stamp) (s : State) :
    Keeps s (offerSealPoint cause stamp s) := by
  unfold offerSealPoint
  split
  · next hpermitted =>
    split
    · exact keeps_takeEmptyPoint s
    · exact keeps_takeSeal cause stamp s (free_of_framePermission hpermitted)
  · exact keeps_refuseSealPoint s

/-! ### Permission return (R127, R129, R131) -/

theorem keeps_takeOwedSeal (s : State) (hfree : s.store.sealedGen = none) : Keeps s (takeOwedSeal s) := by
  unfold takeOwedSeal
  split
  · exact keeps_takeEmptyPoint s
  · exact keeps_takeSeal _ _ s hfree

theorem keeps_takeCommitNow (s : State) (hfree : s.store.sealedGen = none) : Keeps s (takeCommitNow s) := by
  unfold takeCommitNow
  split
  · exact keeps_setSealing_of_flags rfl
  · exact keeps_takeSeal _ _ s hfree

theorem keeps_returnOwed (s : State) : Keeps s (returnOwed s) := by
  unfold returnOwed
  split
  · next h =>
    simp only [Bool.and_eq_true] at h
    exact keeps_takeOwedSeal s (free_of_framePermission h.2)
  · exact Keeps.refl s

theorem keeps_returnCommitNow (s : State) : Keeps s (returnCommitNow s) := by
  unfold returnCommitNow
  split
  · next h =>
    simp only [Bool.and_eq_true] at h
    exact keeps_takeCommitNow s ((commandPermission_iff s).mp h.2).1
  · exact Keeps.refl s

theorem keeps_permissionReturn (s : State) : Keeps s (permissionReturn s) :=
  (keeps_returnOwed s).trans (keeps_returnCommitNow _)

/-! ### Frame boundaries (R87) -/

/-- Phase, frame number and flags are no settings. -/
theorem keeps_setTimer_of_sets {s : State} {x : FrameTimer} (active : x.active = s.timer.active)
    (shadow : x.shadow = s.timer.shadow) : Keeps s (s.setTimer x) :=
  keeps_setTimer x fun law => law.of_parts (activeSet := by simp [active]) (shadowSet := shadow)

theorem activeSetLaw_of_timingValid {t : Timing} {en : Bool} {tol : Nat} (h : timingValid t en tol = true) :
    ActiveSetLaw t ∧ (en = true → 2 * tol < t.period) := by
  simp only [timingValid, Bool.and_eq_true, decide_eq_true_eq, Bool.or_eq_true, Bool.not_eq_true'] at h
  obtain ⟨⟨⟨⟨⟨hlow, hhigh⟩, hseal⟩, hone⟩, hdeadline⟩, htol⟩ := h
  exact ⟨⟨⟨hlow, hhigh⟩, hseal, hone, hdeadline⟩, fun hen => htol.resolve_left (by simp [hen])⟩

theorem keeps_lateSealPoint (s : State) : Keeps s (lateSealPoint s) := by
  unfold lateSealPoint
  split
  · exact Keeps.refl s
  · split <;> exact keeps_offerSealPoint _ _ s

theorem keeps_newFrame (s : State) : Keeps s (newFrame s) := keeps_setTimer_of_sets rfl rfl

theorem keeps_transferCheck (s : State) : Keeps s (transferCheck s) := by
  unfold transferCheck
  split
  · exact Keeps.refl s
  · split
    · next hvalid =>
      exact keeps_setTimer _ fun law => law.of_parts (activeSet := fun _ => (activeSetLaw_of_timingValid hvalid).1)
    · split
      · exact Keeps.refl s
      · refine Keeps.trans ?_ (keeps_raiseCause _ _)
        exact keeps_setTimer_of_sets rfl rfl

theorem keeps_reportBoundary (s : State) : Keeps s (reportBoundary s) := by
  unfold reportBoundary
  split
  · next hheld =>
    dsimp only
    split
    · refine Keeps.trans (t := s.setSealing
        { s.sealing with hold := .notHeld, holdCount := s.sealing.holdCount + 1, expired := true }) ?_ ?_
      · refine keeps_setSealing _ fun law => law.of_parts (holdCount := ?_)
        intro hcount
        have hlt := hcount.2 hheld
        exact ⟨hlt, by simp⟩
      · exact (keeps_raiseCause _ _).trans (keeps_permissionReturn _)
    · next hbelow =>
      refine keeps_setSealing _ fun law => law.of_parts (holdCount := ?_)
      have hlimit := law.holdLimit.2
      simp only [State.setSealing_sealing]
      omega
  · exact Keeps.refl s

theorem keeps_earlySealPoint (s : State) : Keeps s (earlySealPoint s) := by
  unfold earlySealPoint
  split
  · exact (keeps_offerSealPoint _ _ s).trans (keeps_setTimer_of_sets (by simp) (by simp))
  · exact Keeps.refl s

theorem keeps_takeBoundary (s : State) : Keeps s (takeBoundary s) :=
  ((((keeps_lateSealPoint s).trans (keeps_newFrame _)).trans (keeps_transferCheck _)).trans
    (keeps_reportBoundary _)).trans (keeps_earlySealPoint _)

theorem keeps_realign (s : State) : Keeps s (realign s) := by
  have hmoved : Keeps s (s.setTimer { s.timer with phase := 0 }) := keeps_setTimer_of_sets rfl rfl
  unfold realign
  dsimp only
  split
  · exact (hmoved.trans (keeps_offerSealPoint _ _ _)).trans (keeps_setTimer_of_sets (by simp) (by simp))
  · exact hmoved

/-! ### Tracker changes (R108) -/

theorem keeps_changeTracker (x : Tracker) (cs : List Cause) (s : State)
    (law : ParameterLaw s.tracker → ParameterLaw x) : Keeps s (changeTracker x cs s) := by
  have hchanged : Keeps s (raiseAll cs (s.setTracker x)) := (keeps_setTracker x law).trans (keeps_raiseAll cs _)
  unfold changeTracker
  dsimp only
  split
  · exact hchanged.trans (keeps_permissionReturn _)
  · exact hchanged

end Sys2Proof.Machine

/-! SUPPORT. A taking attempt and what follows a freed slot keep the laws: staging and coalescing on the store, and the
U-port's answers, forwards and stalls. -/

namespace Sys2Proof.Machine

/-! ### Staging and the store's law (R1 to R6) -/

theorem coalesced_formed {ps : List (Word × Lanes)} (hps : ∀ p ∈ ps, p.2.length = 8) {e : Entry} (he : EntryFormed e) :
    EntryFormed (coalesced ps e) := by
  obtain ⟨hlength, hcarries⟩ := he
  unfold coalesced EntryFormed
  cases hfind : ps.find? (fun p => p.1 == e.addr) with
  | none => exact ⟨hlength, hcarries⟩
  | some p =>
    have hp := hps p (List.mem_of_find?_eq_some hfind)
    have heq : p.2.length = e.lanes.length := by rw [hp, hlength]
    exact ⟨by simp [hp, hlength], carries_overlay heq hcarries⟩

theorem allocations_positions (w : Window) (es : List Entry) (ps : List (Word × Lanes)) :
    (allocations w es ps).map (fun e => e.position) = List.range' (es.length + 1) (unheld es ps).length := by
  refine List.ext_getElem (by simp) fun i h1 h2 => ?_
  simp [allocations]
  omega

theorem allocations_addresses (w : Window) (es : List Entry) (ps : List (Word × Lanes)) :
    (allocations w es ps).map (fun e => e.addr) = (unheld es ps).map fun p => p.1 := by
  refine List.ext_getElem (by simp) fun i h1 h2 => ?_
  simp [allocations]

/-- An allocated entry is for the window, with the lanes of one of the words that had no entry. -/
theorem mem_allocations {w : Window} {es : List Entry} {ps : List (Word × Lanes)} {e : Entry}
    (h : e ∈ allocations w es ps) : e.window = w ∧ ∃ p ∈ unheld es ps, e.lanes = p.2 := by
  obtain ⟨⟨p, i⟩, hq, rfl⟩ := List.mem_map.mp h
  exact ⟨rfl, p, (List.mem_zipIdx hq).2.2 ▸ List.getElem_mem _, rfl⟩

/-- Staging a well-formed write that fits the free slots keeps the store's law. -/
theorem StoreLaw.stageWhole {s : State} (law : StoreLaw s) {w : Window} {r : Request} {stamp : Stamp}
    (hwf : r.wf = true) (hfits : need s.store r ≤ freeSlots s.store) :
    StoreLaw (s.setStore (stageWhole w r stamp s.store)) := by
  by_cases hnone : carryingWords r = []
  · rw [stageWhole_of_nothing hnone]
    exact law
  obtain ⟨hslots, -, hpositions, hwords, hsealedWords, hformed, hsealedFormed, hwindows⟩ := law
  have hsealed : sealedEntries (Machine.stageWhole w r stamp s.store) = sealedEntries s.store := by
    simp [sealedEntries]
  have hdistinct := carryingWords_nodup hwf
  have hentries := openEntries_stageWhole w r stamp s.store
  have hcount := openCount_stageWhole (w := w) (stamp := stamp) (st := s.store) hwf
  have hlanes : ∀ p ∈ carryingWords r, p.2.length = 8 := fun p hp => carryingWords_lanes hwf hp
  rw [stageWords_eq_append w _ hdistinct] at hentries
  constructor
  case slots =>
    rw [slots_iff, State.setStore_store, hcount, sealedRemaining, hsealed, ← sealedRemaining]
    have hfree : freeSlots s.store = Config.slotCount - (openCount s.store + sealedRemaining s.store) := rfl
    have hle := (slots_iff s.store).mp hslots
    omega
  case body =>
    intro b hb hempty
    have hnil := openEntries_of_body hb
    rw [State.setStore_store, hentries, hempty, List.append_eq_nil_iff, List.map_eq_nil_iff] at hnil
    obtain ⟨hold, hnew⟩ := hnil
    have hunheld : unheld (openEntries s.store) (carryingWords r) = carryingWords r := by
      rw [unheld, List.filter_eq_self]
      intro p _
      rw [hold]
      rfl
    rw [← List.length_eq_zero_iff, allocations_length, hunheld, List.length_eq_zero_iff] at hnew
    exact hnone hnew
  case openPositions =>
    rw [State.setStore_store, hcount, need_eq, hentries, List.map_append, allocations_positions, List.map_map]
    rw [show (fun e => Entry.position e) ∘ coalesced (carryingWords r) = fun e => e.position from rfl, hpositions,
      openCount, Nat.add_comm _ 1, List.range'_append_1]
  case openWords =>
    rw [State.setStore_store, hentries, List.map_append, allocations_addresses, List.map_map]
    rw [show (fun e => Entry.addr e) ∘ coalesced (carryingWords r) = fun e => e.addr from rfl, List.nodup_append]
    refine ⟨hwords, hdistinct.sublist (List.Sublist.map _ List.filter_sublist), ?_⟩
    intro a ha b hb hab
    subst hab
    obtain ⟨e, he, rfl⟩ := List.mem_map.mp ha
    obtain ⟨p, hp, hpe⟩ := List.mem_map.mp hb
    have hfree := (List.mem_filter.mp hp).2
    rw [hpe, show holds (openEntries s.store) e.addr = true from List.any_eq_true.mpr ⟨e, he, by simp⟩] at hfree
    cases hfree
  case sealedWords => rwa [State.setStore_store, hsealed]
  case openFormed =>
    rw [State.setStore_store, hentries]
    intro e he
    obtain he | he := List.mem_append.mp he
    · obtain ⟨x, hx, rfl⟩ := List.mem_map.mp he
      exact coalesced_formed hlanes (hformed x hx)
    · obtain ⟨-, p, hp, hpl⟩ := mem_allocations he
      have hmem := (List.mem_filter.mp hp).1
      exact ⟨by rw [hpl, hlanes p hmem], by rw [hpl]; exact (mem_carryingWords.mp hmem).2⟩
  case sealedFormed => rwa [State.setStore_store, hsealed]
  case openWindows =>
    intro b hb e he
    have hset : openWindowSet (Machine.stageWhole w r stamp s.store) = b.windowSet := by
      rw [State.setStore_store] at hb
      simp [openWindowSet, hb]
    have hold : ∀ x ∈ openEntries s.store, (openWindowSet s.store).getLsbD x.window.val = true := by
      intro x hx
      cases hbody : s.store.openBody with
      | none => simp [openEntries, hbody] at hx
      | some o =>
        rw [openEntries_of_body hbody] at hx
        simpa [openWindowSet, hbody] using hwindows o hbody x hx
    have hmem : e ∈ openEntries (Machine.stageWhole w r stamp s.store) := by
      rw [State.setStore_store] at hb
      rw [openEntries_of_body hb]
      exact he
    rw [openWindowSet_stageWhole hwf] at hset
    rw [← hset]
    rw [hentries] at hmem
    obtain hmem | hmem := List.mem_append.mp hmem
    · obtain ⟨x, hx, rfl⟩ := List.mem_map.mp hmem
      have hx := hold x hx
      split
      · exact hx
      · rw [BitVec.getLsbD_or]
        exact Bool.or_eq_true_iff.mpr (.inl hx)
    · obtain ⟨hw, p, hp, -⟩ := mem_allocations hmem
      rw [if_neg (List.ne_nil_of_mem hp), BitVec.getLsbD_or, hw, getLsbD_windowBit]
      simp

/-- A coalesce-only write keeps the store's law. -/
theorem StoreLaw.coalesceOnly {s : State} (law : StoreLaw s) {r : Request} {stamp : Stamp} (hwf : r.wf = true) :
    StoreLaw (s.setStore (coalesceOnly r stamp s.store)) := by
  obtain ⟨hslots, hbody, hpositions, hwords, hsealedWords, hformed, hsealedFormed, hwindows⟩ := law
  have hentries := openEntries_coalesceOnly hwf stamp s.store
  obtain ⟨hset, -, -⟩ := coalesceOnly_keeps r stamp s.store
  have hsealed : sealedEntries (Machine.coalesceOnly r stamp s.store) = sealedEntries s.store := by
    simp [sealedEntries]
  have hcount : openCount (Machine.coalesceOnly r stamp s.store) = openCount s.store := by
    rw [openCount, hentries, List.length_map, openCount]
  have hbodies : ∀ b, (Machine.coalesceOnly r stamp s.store).openBody = some b → ∃ o, s.store.openBody = some o := by
    intro b hb
    obtain ⟨-, heq⟩ | ⟨-, o, ho, -⟩ := coalesceOnly_cases r stamp s.store
    · exact ⟨b, heq ▸ hb⟩
    · exact ⟨o, ho⟩
  constructor
  case slots => rwa [slots_iff, State.setStore_store, hcount, sealedRemaining, hsealed, ← sealedRemaining, ← slots_iff]
  case body =>
    intro b hb hempty
    obtain ⟨o, ho⟩ := hbodies b hb
    have hnil := openEntries_of_body hb
    rw [State.setStore_store, hentries, hempty, List.map_eq_nil_iff, openEntries_of_body ho] at hnil
    exact hbody o ho hnil
  case openPositions =>
    rw [State.setStore_store, hcount, hentries, List.map_map]
    exact hpositions
  case openWords =>
    rw [State.setStore_store, hentries, List.map_map]
    exact hwords
  case sealedWords => rwa [State.setStore_store, hsealed]
  case openFormed =>
    rw [State.setStore_store, hentries]
    intro e he
    obtain ⟨x, hx, rfl⟩ := List.mem_map.mp he
    exact coalesced_formed (fun p hp => carryingWords_lanes hwf hp) (hformed x hx)
  case sealedFormed => rwa [State.setStore_store, hsealed]
  case openWindows =>
    intro b hb e he
    obtain ⟨o, ho⟩ := hbodies b hb
    rw [State.setStore_store] at hb
    have hmem : e ∈ (openEntries s.store).map (coalesced (carryingWords r)) := by
      rw [← hentries, openEntries_of_body hb]
      exact he
    obtain ⟨x, hx, rfl⟩ := List.mem_map.mp hmem
    have hsets : b.windowSet = o.windowSet := by simpa [openWindowSet, hb, ho] using hset
    rw [openEntries_of_body ho] at hx
    rw [hsets]
    exact hwindows o ho x hx

end Sys2Proof.Machine

/-! SUPPORT. The U-port's own updates, and the taking attempt assembled from them, keep the laws. -/

namespace Sys2Proof.Machine

/-! ### Updates of the U-port -/

/-- What the law reads of a URQ entry: its name and its request. -/
def urqKey (e : UrqEntry) : Nat × Request :=
  (e.serial, e.request)

/-- Entries that answers and forwards change keep name and request. -/
theorem urqKeys_updateUrq (serial : Nat) {f : UrqEntry → UrqEntry} (hf : ∀ e, urqKey (f e) = urqKey e)
    (urq : List UrqEntry) : ((updateUrq serial f urq).map urqKey).Sublist (urq.map urqKey) := by
  have hkeys : (updateUrq serial f urq).map urqKey = urq.map urqKey := by
    rw [updateUrq, List.map_map]
    refine List.map_congr_left fun e _ => ?_
    simp only [Function.comp]
    split
    · exact hf e
    · rfl
  rw [hkeys]

/-- The U-port's law after an update that accepts nothing: the requests held are some of those before, in order, and a
closed port stays empty. -/
theorem UPortLaw.update {s : State} (law : UPortLaw s) {x : UPort}
    (held : (x.urq.map urqKey).Sublist (s.uport.urq.map urqKey)) (isOpen : x.isOpen = s.uport.isOpen)
    (nextSerial : x.nextSerial = s.uport.nextSerial)
    (closed : s.uport.urq = [] → s.uport.issueOrder = [] → s.uport.stall = none →
      x.issueOrder = [] ∧ x.stall = none)
    (upstream : ∀ f ∈ x.issueOrder, f ∈ s.uport.issueOrder ∨ isDrain f.origin = false) :
    UPortLaw (s.setUport x) := by
  obtain ⟨hdepth, hformed, hclosed, hopen, horder, hserials, hnext⟩ := law
  have hmem : ∀ e ∈ x.urq, ∃ o ∈ s.uport.urq, o.serial = e.serial ∧ o.request = e.request := by
    intro e he
    obtain ⟨o, ho, hkey⟩ := List.mem_map.mp (held.subset (List.mem_map_of_mem (f := urqKey) he))
    exact ⟨o, ho, congrArg Prod.fst hkey, congrArg Prod.snd hkey⟩
  have hsublist : (x.urq.map fun e => e.serial).Sublist (s.uport.urq.map fun e => e.serial) := by
    have h := held.map Prod.fst
    rwa [List.map_map, List.map_map] at h
  constructor
  case depth =>
    have h := held.length_le
    simp only [List.length_map] at h
    exact Nat.le_trans h hdepth
  case formed =>
    intro e he
    obtain ⟨o, ho, -, hr⟩ := hmem e he
    exact hr ▸ hformed o ho
  case closedIsEmpty =>
    intro hno
    obtain ⟨hurq, hissue, hstall, hbody⟩ := hclosed (isOpen ▸ hno)
    obtain ⟨hx, hxs⟩ := closed hurq hissue hstall
    refine ⟨?_, hx, hxs, hbody⟩
    rw [hurq, List.map_nil, List.sublist_nil, List.map_eq_nil_iff] at held
    exact held
  case openWhileHigh => exact fun h => hopen (isOpen ▸ h)
  case upstreamOnly => exact fun f hf => (upstream f hf).elim (horder f) id
  case serials => exact hserials.sublist hsublist
  case nextIsNew =>
    intro e he
    obtain ⟨o, ho, hs, -⟩ := hmem e he
    rw [← hs, State.setUport_uport, nextSerial]
    exact hnext o ho

/-- An update of the U-port bears on its own law and on STALL_LIMIT only. -/
theorem keeps_setUport {s : State} {x : UPort} (stallLimit : x.stallLimit = s.uport.stallLimit)
    (law : UPortLaw s → UPortLaw (s.setUport x)) : Keeps s (s.setUport x) where
  settings h := h.of_parts (stallLimit := stallLimit)
  uport := law

theorem mem_of_takingHead {u : UPort} {e : UrqEntry} (h : takingHead u = some e) : e ∈ u.urq :=
  List.mem_of_find?_eq_some h

/-- With a taking head the port is not empty. -/
theorem urq_ne_nil_of_takingHead {u : UPort} {e : UrqEntry} (h : takingHead u = some e) : u.urq ≠ [] :=
  List.ne_nil_of_mem (mem_of_takingHead h)

/-- Under the law, a port with a taking head is open. -/
theorem UPortLaw.open_of_takingHead {s : State} (law : UPortLaw s) {e : UrqEntry} (h : takingHead s.uport = some e) :
    s.uport.isOpen = true := by
  cases hopen : s.uport.isOpen with
  | true => rfl
  | false => exact absurd (law.closedIsEmpty hopen).1 (urq_ne_nil_of_takingHead h)

theorem keeps_answerAtTaking (serial : Nat) (c : Classification) (snap : Option (List (Option Byte))) (a : Answer)
    (s : State) : Keeps s (answerAtTaking serial c snap a s) :=
  keeps_setUport rfl fun law => law.update (urqKeys_updateUrq serial (by exact fun _ => rfl) _) rfl rfl
    (fun _ horder _ => ⟨horder, rfl⟩) fun _ hf => .inl hf

/-- A forward joins the issue order of a port that holds a request. -/
theorem keeps_forwardAtTaking {serial : Nat} {c : Classification} {snap : Option (List (Option Byte))} {f : Forward}
    {s : State} (hheld : s.uport.urq ≠ []) (hf : isDrain f.origin = false) :
    Keeps s (forwardAtTaking serial c snap f s) := by
  refine keeps_setUport rfl fun law => law.update (urqKeys_updateUrq serial (by exact fun _ => rfl) _) rfl rfl
    (fun hnone => absurd hnone hheld) fun g hg => ?_
  obtain hg | hg := List.mem_append.mp hg
  · exact .inl hg
  · obtain rfl := List.mem_singleton.mp hg
    exact .inr hf

theorem keeps_stallHead {s : State} (hheld : s.uport.urq ≠ []) : Keeps s (stallHead s) := by
  unfold stallHead
  split
  · exact Keeps.refl s
  · exact keeps_setUport rfl fun law => law.update (List.Sublist.refl _) rfl rfl (fun hnone => absurd hnone hheld)
      fun _ hf => .inl hf

theorem keeps_holdHead (s : State) : Keeps s (holdHead s) :=
  keeps_setUport rfl fun law => law.update (List.Sublist.refl _) rfl rfl (fun _ horder hstall => ⟨horder, hstall⟩)
    fun _ hf => .inl hf

theorem keeps_refuseWrite (e : UrqEntry) (c : Classification) (s : State) : Keeps s (refuseWrite e c s) :=
  (keeps_answerAtTaking ..).trans (keeps_raiseCause _ _)

/-! ### Updates of the store -/

/-- The store with other open entries, in a port that is open. -/
theorem keeps_setStore_of_open {s : State} {x : Store} {e : UrqEntry} (head : takingHead s.uport = some e)
    (hsealed : x.sealedGen = s.store.sealedGen)
    (law : e.request.wf = true → StoreLaw s → StoreLaw (s.setStore x)) : Keeps s (s.setStore x) where
  uport h := by
    have hopen := h.open_of_takingHead head
    obtain ⟨hdepth, hformed, -, hhigh, horder, hserials, hnext⟩ := h
    exact ⟨hdepth, hformed, fun hno => absurd hopen (by simp [show s.uport.isOpen = false from hno]), hhigh, horder,
      hserials, hnext⟩
  store h := law (h.formed e (mem_of_takingHead head))
  drain _ _ _ h := h.of_eq hsealed rfl rfl

theorem keeps_stageWhole {s : State} {e : UrqEntry} (head : takingHead s.uport = some e) (w : Window) (stamp : Stamp)
    (hfits : need s.store e.request ≤ freeSlots s.store) :
    Keeps s (s.setStore (stageWhole w e.request stamp s.store)) :=
  keeps_setStore_of_open head (by simp) fun hwf law => law.stageWhole hwf hfits

theorem keeps_coalesceOnly {s : State} {e : UrqEntry} (head : takingHead s.uport = some e) (stamp : Stamp) :
    Keeps s (s.setStore (coalesceOnly e.request stamp s.store)) :=
  keeps_setStore_of_open head (by simp) fun hwf law => law.coalesceOnly hwf

/-! ### The taking attempt (R46, R48, R51 to R58) -/

theorem keeps_spillHead {s : State} {e : UrqEntry} (head : takingHead s.uport = some e) (c : Classification) :
    Keeps s (spillHead e c s) := by
  unfold spillHead
  dsimp only
  refine Keeps.trans (keeps_coalesceOnly head (frameStamp s)) ?_
  split
  · exact keeps_answerAtTaking ..
  · exact keeps_forwardAtTaking (urq_ne_nil_of_takingHead head) rfl

theorem keeps_notStageable {s : State} {e : UrqEntry} (head : takingHead s.uport = some e) (c : Classification)
    (p : Policy) : Keeps s (notStageable e c p s) := by
  cases p with
  | stall => exact keeps_stallHead (urq_ne_nil_of_takingHead head)
  | reject => exact keeps_refuseWrite e c s
  | spill => exact keeps_spillHead head c

theorem keeps_takeStagedWrite {s : State} {e : UrqEntry} (head : takingHead s.uport = some e) (w : Window) (p : Policy)
    (v : View) (run : RunState) : Keeps s (takeStagedWrite e w p v run s) := by
  cases run with
  | faulted => exact keeps_refuseWrite ..
  | normal =>
    unfold takeStagedWrite
    dsimp only
    split
    · next hfits => exact (keeps_stageWhole head w (frameStamp s) hfits).trans (keeps_answerAtTaking ..)
    · exact keeps_notStageable head _ p

theorem keeps_takeStagedRead {s : State} {e : UrqEntry} (head : takingHead s.uport = some e) (w : Window) (p : Policy)
    (v : View) (run : RunState) : Keeps s (takeStagedRead e w p v run s) := by
  unfold takeStagedRead
  dsimp only
  split
  · exact keeps_answerAtTaking ..
  · exact keeps_forwardAtTaking (urq_ne_nil_of_takingHead head) rfl

theorem keeps_takePassThrough {s : State} {e : UrqEntry} (head : takingHead s.uport = some e) :
    Keeps s (takePassThrough e s) := by
  unfold takePassThrough
  split <;> exact keeps_forwardAtTaking (urq_ne_nil_of_takingHead head) rfl

theorem keeps_attemptTaking {s : State} {e : UrqEntry} (head : takingHead s.uport = some e) :
    Keeps s (attemptTaking e s) := by
  unfold attemptTaking
  split
  · exact keeps_takePassThrough head
  · split
    · exact keeps_takeStagedRead head ..
    · exact keeps_takeStagedWrite head ..

theorem keeps_reportFreedSlots (s : State) : Keeps s (reportFreedSlots s) := by
  unfold reportFreedSlots
  split
  · exact Keeps.refl s
  · split
    · exact Keeps.refl s
    · next head => exact keeps_attemptTaking head

theorem keeps_takeHeldHead (s : State) : Keeps s (takeHeldHead s) := by
  obtain heq | ⟨e, head, -, -, heq⟩ := takeHeldHead_cases s
  · rw [heq]
    exact Keeps.refl s
  · rw [heq]
    exact keeps_attemptTaking head

/-! ### Arrival, departure and expiry (R45, R47, R54) -/

theorem keeps_appendRequest {r : Request} {s : State} (hwf : r.wf = true) (haccepts : accepts s.uport = true) :
    Keeps s (appendRequest r s) := by
  simp only [accepts, Bool.and_eq_true, decide_eq_true_eq] at haccepts
  obtain ⟨hopen, hroom⟩ := haccepts
  refine keeps_setUport rfl fun ⟨_, hformed, _, hhigh, horder, hserials, hnext⟩ => ?_
  constructor
  case depth =>
    rw [State.setUport_uport, List.length_append, List.length_singleton]
    omega
  case formed =>
    intro e he
    obtain he | he := List.mem_append.mp he
    · exact hformed e he
    · obtain rfl := List.mem_singleton.mp he
      exact hwf
  case closedIsEmpty => exact fun hno => absurd hopen (by simp [show s.uport.isOpen = false from hno])
  case openWhileHigh => exact hhigh
  case upstreamOnly => exact horder
  case serials =>
    rw [State.setUport_uport, List.map_append, List.pairwise_append]
    refine ⟨hserials, List.pairwise_singleton .., fun a ha b hb => ?_⟩
    obtain ⟨e, he, rfl⟩ := List.mem_map.mp ha
    obtain rfl : b = s.uport.nextSerial := by simpa [waitingEntry] using hb
    exact hnext e he
  case nextIsNew =>
    intro e he
    obtain he | he := List.mem_append.mp he
    · exact Nat.lt_succ_of_lt (hnext e he)
    · obtain rfl := List.mem_singleton.mp he
      exact Nat.lt_succ_self _

theorem keeps_expireStalled (serial : Nat) (s : State) : Keeps s (expireStalled serial s) :=
  keeps_setUport rfl fun law => law.update (urqKeys_updateUrq serial (by exact fun _ => rfl) _) rfl rfl
    (fun _ horder _ => ⟨horder, rfl⟩) fun _ hf => .inl hf

theorem keeps_answerUpstream (serial : Nat) (a : Answer) (s : State) : Keeps s (answerUpstream serial a s) :=
  keeps_setUport rfl fun law => law.update (urqKeys_updateUrq serial (by exact fun _ => rfl) _) rfl rfl
    (fun _ horder hstall => ⟨horder, hstall⟩) fun _ hf => .inl hf

theorem keeps_depart (s : State) (sent : List Answer) :
    Keeps s (s.setUport { s.uport with urq := s.uport.urq.drop 1, sent := sent }) :=
  keeps_setUport rfl fun law => law.update ((List.drop_sublist 1 _).map _) rfl rfl
    (fun _ horder hstall => ⟨horder, hstall⟩) fun _ hf => .inl hf

/-- The reopening: a port that opens does so with SRSTn high (R61). -/
theorem keeps_reopenPort (s : State) : Keeps s (reopenPort s) := by
  unfold reopenPort
  split
  · next h =>
    simp only [Bool.and_eq_true, beq_iff_eq] at h
    obtain ⟨⟨-, hhigh⟩, -⟩ := h
    refine Keeps.trans ?_ (keeps_raiseCause _ _)
    refine keeps_setUport rfl fun ⟨hdepth, hformed, _, _, horder, hserials, hnext⟩ => ?_
    exact ⟨hdepth, hformed, fun hno => (by simp at hno), fun _ => hhigh, horder, hserials, hnext⟩
  · exact Keeps.refl s

end Sys2Proof.Machine

/-! SUPPORT. The D-port's updates and the Drain Engine's law: tags, drain writes in flight, grants, and the ends of drain
writes with the retirement. -/

namespace Sys2Proof.Machine

/-! ### Tags (R72) -/

/-- A free tag is one that is not in use. -/
theorem tagFree_iff (d : DPort) (t : Tag) : tagFree d t = true ↔ t ∉ tagsInUse d := by
  simp [tagFree, tagsInUse]

theorem not_inUse_of_lowestFreeTag {d : DPort} {t : Tag} (h : lowestFreeTag d = some t) : t ∉ tagsInUse d :=
  (tagFree_iff d t).mp (List.find?_some h)

theorem TagLaw.removeMember {s : State} (law : TagLaw s) (t : Tag) : TagLaw (removeMember t s) :=
  law.sublist ((List.filter_sublist.map _).append_right _)

theorem TagLaw.removeStale {s : State} (law : TagLaw s) (t : Tag) : TagLaw (removeStale t s) :=
  law.sublist ((List.filter_sublist.map _).append_left _)

theorem not_inUse_removeMember {s : State} {t : Tag} (h : t ∉ s.dport.stale.map fun x => x.tag) :
    t ∉ tagsInUse (removeMember t s).dport := by
  simpa [tagsInUse, removeMember] using h

theorem TagLaw.addStale {s : State} (law : TagLaw s) {t : Tag} (h : t ∉ tagsInUse s.dport) : TagLaw (addStale t s) := by
  have happend : tagsInUse (Machine.addStale t s).dport = tagsInUse s.dport ++ [t] := by
    simp [tagsInUse, Machine.addStale]
  unfold TagLaw
  rw [happend, List.nodup_append]
  refine ⟨law, List.nodup_singleton t, fun a ha b hb hab => ?_⟩
  obtain rfl := List.mem_singleton.mp hb
  exact h (hab ▸ ha)

theorem TagLaw.issueOn {s : State} (law : TagLaw s) {t : Tag} (h : t ∉ tagsInUse s.dport) (o : Origin) (r : Request)
    (share now : Nat) : TagLaw (s.setDport (issueOn t o r share now s.dport)) := by
  have hperm : (tagsInUse (Machine.issueOn t o r share now s.dport)).Perm (t :: tagsInUse s.dport) := by
    simp only [tagsInUse, Machine.issueOn, List.map_append, List.map_cons, List.map_nil, List.append_assoc,
      List.singleton_append]
    exact List.perm_middle
  exact hperm.nodup_iff.mpr (List.nodup_cons.mpr ⟨h, law⟩)

/-! ### Drain writes in flight -/

/-- The creation position of a drain write. -/
def drainPosition : Origin → Option Nat
  | .read _ => none
  | .write _ => none
  | .spill _ => none
  | .drain p => some p

theorem drainPositions_eq (d : DPort) : drainPositions d = d.inFlight.filterMap fun m => drainPosition m.origin := by
  refine List.filterMap_congr fun m _ => ?_
  cases m.origin <;> rfl

theorem drainPosition_of_upstream {o : Origin} (h : isDrain o = false) : drainPosition o = none := by
  cases o with
  | drain p => cases h
  | read _ | write _ | spill _ => rfl

theorem mem_of_memberWithTag {d : DPort} {t : Tag} {m : InFlight} (h : memberWithTag d t = some m) :
    m ∈ d.inFlight ∧ m.tag = t :=
  ⟨List.mem_of_find?_eq_some h, by simpa using List.find?_some h⟩

theorem TagLaw.members {s : State} (law : TagLaw s) : (s.dport.inFlight.map fun m => m.tag).Nodup :=
  (List.nodup_append.mp law).1

/-- Where tags are distinct, taking out a tag takes out its member only. -/
theorem split_at_member {members : List InFlight} {m : InFlight} (h : (members.map fun x => x.tag).Nodup)
    (hm : m ∈ members) :
    ∃ front back, members = front ++ m :: back ∧ (members.filter fun x => x.tag != m.tag) = front ++ back := by
  obtain ⟨front, back, rfl⟩ := List.append_of_mem hm
  refine ⟨front, back, rfl, ?_⟩
  have hother : ∀ x ∈ front ++ back, (x.tag != m.tag) = true := by
    intro x hx
    have hperm : ((front ++ m :: back).map fun y => y.tag).Perm ((m :: (front ++ back)).map fun y => y.tag) :=
      List.perm_middle.map _
    have hnodup := hperm.nodup_iff.mp h
    rw [List.map_cons, List.nodup_cons] at hnodup
    simpa using fun k : x.tag = m.tag => hnodup.1 (k ▸ List.mem_map_of_mem hx)
  have hparts := List.filter_eq_self.mpr hother
  rw [List.filter_append] at hparts
  rw [List.filter_append, List.filter_cons]
  simpa using hparts

/-- A member of an upstream origin leaves the drain writes in flight as they were. -/
theorem drainPositions_removeMember_of_upstream {s : State} (law : TagLaw s) {m : InFlight}
    (hm : m ∈ s.dport.inFlight) (ho : isDrain m.origin = false) :
    drainPositions (removeMember m.tag s).dport = drainPositions s.dport := by
  obtain ⟨front, back, hsplit, hfilter⟩ := split_at_member law.members hm
  rw [drainPositions_eq, drainPositions_eq, removeMember, State.setDport_dport, hfilter, hsplit]
  simp [drainPosition_of_upstream ho]

/-- A drain write that leaves the list takes its position out, and no other. -/
theorem drainPositions_removeMember {s : State} (law : TagLaw s) {m : InFlight} {p : Nat}
    (hm : m ∈ s.dport.inFlight) (ho : m.origin = .drain p) (hone : (drainPositions s.dport).Nodup) :
    p ∈ drainPositions s.dport ∧ (drainPositions (removeMember m.tag s).dport).Nodup ∧
      ∀ q, q ∈ drainPositions (removeMember m.tag s).dport ↔ q ∈ drainPositions s.dport ∧ q ≠ p := by
  obtain ⟨front, back, hsplit, hfilter⟩ := split_at_member law.members hm
  have hbefore : drainPositions s.dport =
      (front.filterMap fun x => drainPosition x.origin) ++ p :: back.filterMap fun x => drainPosition x.origin := by
    rw [drainPositions_eq, hsplit, List.filterMap_append, List.filterMap_cons, ho]
    rfl
  have hafter : drainPositions (removeMember m.tag s).dport =
      (front.filterMap fun x => drainPosition x.origin) ++ back.filterMap fun x => drainPosition x.origin := by
    rw [drainPositions_eq, removeMember, State.setDport_dport, hfilter, List.filterMap_append]
  rw [hbefore] at hone ⊢
  rw [hafter]
  have hcons := (List.perm_middle.nodup_iff).mp hone
  rw [List.nodup_cons] at hcons
  obtain ⟨hnew, hrest⟩ := hcons
  refine ⟨by simp, hrest, fun q => ⟨fun hq => ⟨?_, fun k => hnew (k ▸ hq)⟩, fun ⟨hq, hne⟩ => ?_⟩⟩
  · exact List.perm_middle.mem_iff.mpr (List.mem_cons_of_mem _ hq)
  · exact (List.mem_cons.mp (List.perm_middle.mem_iff.mp hq)).resolve_left hne

/-! ### The store with another sealed generation -/

/-- The entries held are some of those before, changed in drain state and retries only. -/
theorem StoreLaw.withSealed {s : State} (law : StoreLaw s) {g : SealedGen}
    (held : (g.entries.map fun x => x.entry).Sublist ((sealedEntries s.store).map fun x => x.entry)) :
    StoreLaw (s.setStore (withSealed s.store g)) := by
  obtain ⟨hslots, hbody, hpositions, hwords, hsealedWords, hformed, hsealedFormed, hwindows⟩ := law
  refine ⟨?_, hbody, hpositions, hwords, ?_, hformed, ?_, hwindows⟩
  · rw [slots_iff] at hslots ⊢
    have hle := held.length_le
    simp only [List.length_map] at hle
    exact Nat.le_trans (Nat.add_le_add_left hle _) hslots
  · have hsub := held.map fun e => e.addr
    simp only [List.map_map, Function.comp_def] at hsub
    exact hsealedWords.sublist hsub
  · intro x hx
    obtain ⟨y, hy, hxy⟩ := List.mem_map.mp (held.subset (List.mem_map_of_mem hx))
    exact hxy ▸ hsealedFormed y hy

theorem sealedEntries_of_some {st : Store} {g : SealedGen} (h : st.sealedGen = some g) : sealedEntries st = g.entries := by
  simp [sealedEntries, h]

/-- Every law but the Drain Engine's, of a store with other sealed entries. -/
theorem keepsMost_withSealed {s : State} {g h : SealedGen} (hg : s.store.sealedGen = some g)
    (held : (h.entries.map fun x => x.entry).Sublist (g.entries.map fun x => x.entry)) :
    KeepsMost s (s.setStore (withSealed s.store h)) where
  uport law := law.of_eq rfl rfl id
  store _ law := law.withSealed (by rwa [sealedEntries_of_some hg])

theorem map_entry_changeEntry (p : Nat) {f : SealedEntry → SealedEntry} (hf : ∀ x, (f x).entry = x.entry)
    (es : List SealedEntry) : (changeEntry p f es).map (fun x => x.entry) = es.map fun x => x.entry := by
  rw [changeEntry, List.map_map]
  refine List.map_congr_left fun x _ => ?_
  simp only [Function.comp]
  split
  · exact hf x
  · rfl

theorem withoutEntry_sublist (es : List SealedEntry) (p : Nat) :
    ((withoutEntry es p).map fun x => x.entry).Sublist (es.map fun x => x.entry) :=
  List.filter_sublist.map _

end Sys2Proof.Machine

/-! SUPPORT. Grants, ends of drain writes, the retirement and the deadline keep the laws. -/

namespace Sys2Proof.Machine

/-! ### Positions of sealed entries -/

/-- Entries in strictly rising order of position are named by it. -/
theorem eq_of_position {es : List SealedEntry} (h : (es.map fun e => e.entry.position).Pairwise (· < ·))
    {x y : SealedEntry} (hx : x ∈ es) (hy : y ∈ es) (hpos : x.entry.position = y.entry.position) : x = y :=
  List.inj_on_of_nodup_map (h.imp Nat.ne_of_lt) hx hy hpos

theorem mem_withoutEntry {es : List SealedEntry} {p : Nat} {x : SealedEntry} :
    x ∈ withoutEntry es p ↔ x ∈ es ∧ x.entry.position ≠ p := by
  simp [withoutEntry]

/-- One entry has the position, and the rest stay. -/
theorem length_withoutEntry {es : List SealedEntry} (h : (es.map fun e => e.entry.position).Pairwise (· < ·))
    {e : SealedEntry} (he : e ∈ es) : (withoutEntry es e.entry.position).length + 1 = es.length := by
  obtain ⟨front, back, rfl⟩ := List.append_of_mem he
  have hother : ∀ x ∈ front ++ back, (x.entry.position != e.entry.position) = true := by
    intro x hx
    have hperm : ((front ++ e :: back).map fun y => y.entry.position).Perm
        ((e :: (front ++ back)).map fun y => y.entry.position) := List.perm_middle.map _
    have hnodup := hperm.nodup_iff.mp (h.imp Nat.ne_of_lt)
    rw [List.map_cons, List.nodup_cons] at hnodup
    simpa using fun k : x.entry.position = e.entry.position => hnodup.1 (k ▸ List.mem_map_of_mem hx)
  have hparts := List.filter_eq_self.mpr hother
  rw [List.filter_append] at hparts
  have hlen := congrArg List.length hparts
  simp only [withoutEntry, List.filter_append, List.filter_cons, List.length_append] at hlen ⊢
  simp
  omega

theorem inFlightEntry_spec {g : SealedGen} {p : Nat} {e : SealedEntry} (h : inFlightEntry g p = some e) :
    e ∈ g.entries ∧ e.entry.position = p ∧ e.drain = .inFlight := by
  have hp := List.find?_some h
  simp only [Bool.and_eq_true, beq_iff_eq] at hp
  exact ⟨List.mem_of_find?_eq_some h, hp.1, hp.2⟩

theorem inFlightEntry_isSome {g : SealedGen} {p : Nat} {e : SealedEntry} (he : e ∈ g.entries)
    (hp : e.entry.position = p) (hd : e.drain = .inFlight) : ∃ x, inFlightEntry g p = some x := by
  rw [← Option.isSome_iff_exists, inFlightEntry, List.find?_isSome]
  exact ⟨e, he, by simp [hp, hd]⟩

/-! ### The end of a drain write, before its entry is dealt with -/

/-- The drain write of position p has left the in-flight list, and nothing else has happened: the sealed generation and the
cursor still have the law of the list before. -/
def WriteLeft (s : State) (p : Nat) : Prop :=
  ∃ g c d, s.store.sealedGen = some g ∧ s.drain.cursor = some c ∧ SealedLaw g c d ∧ p ∈ drainPositions d ∧
    (drainPositions s.dport).Nodup ∧ (∀ m ∈ s.dport.inFlight, isDrain m.origin = true → m.orphan = false) ∧
    ∀ q, q ∈ drainPositions s.dport ↔ q ∈ drainPositions d ∧ q ≠ p

theorem WriteLeft.of_eq {s t : State} {p : Nat} (h : WriteLeft s p) (store : t.store = s.store) (drain : t.drain = s.drain)
    (inFlight : t.dport.inFlight = s.dport.inFlight) : WriteLeft t p := by
  have hpositions : drainPositions t.dport = drainPositions s.dport := by
    unfold drainPositions
    rw [inFlight]
  unfold WriteLeft
  rw [store, drain, hpositions, inFlight]
  exact h

theorem writeLeft_removeMember {s : State} (tags : TagLaw s) (law : DrainLaw s) {m : InFlight} {p : Nat}
    (hm : m ∈ s.dport.inFlight) (ho : m.origin = .drain p) : WriteLeft (removeMember m.tag s) p := by
  obtain ⟨hone, horphan, habsent, hpresent⟩ := law
  obtain ⟨hmem, hnodup, hiff⟩ := drainPositions_removeMember tags hm ho hone
  cases hg : s.store.sealedGen with
  | none =>
    rw [(habsent hg).2.2] at hmem
    cases hmem
  | some g =>
    obtain ⟨c, hc, hlaw⟩ := hpresent g hg
    exact ⟨g, c, s.dport, hg, hc, hlaw, hmem, hnodup,
      fun x hx => horphan x (List.mem_filter.mp hx).1, hiff⟩

/-- The law of the Drain Engine but for a generation with no entries, which is about to retire. -/
def DrainEnding (s : State) : Prop :=
  (drainPositions s.dport).Nodup ∧ (∀ m ∈ s.dport.inFlight, isDrain m.origin = true → m.orphan = false) ∧
    ∃ g c, s.store.sealedGen = some g ∧ s.drain.cursor = some c ∧
      (g.entries = [] → drainPositions s.dport = []) ∧ (g.entries ≠ [] → SealedLaw g c s.dport)

theorem DrainEnding.of_eq {s t : State} (h : DrainEnding s) (store : t.store.sealedGen = s.store.sealedGen)
    (drain : t.drain = s.drain) (dport : t.dport = s.dport) : DrainEnding t := by
  unfold DrainEnding
  rw [store, drain, dport]
  exact h

/-- The entry of a write that left the list leaves its slot, whichever of the two counts it enters (R13). -/
theorem drainEnding_withoutEntry {s : State} {p : Nat} (h : WriteLeft s p) {g : SealedGen}
    (hg : s.store.sealedGen = some g) {done dropped : Nat}
    (hcounts : done + dropped = g.doneCount + g.droppedCount + 1) :
    DrainEnding (s.setStore (withSealed s.store
      { g with entries := withoutEntry g.entries p, doneCount := done, droppedCount := dropped })) := by
  obtain ⟨g', c, d, hg', hc, hlaw, hp, hnodup, horphan, hiff⟩ := h
  obtain rfl : g = g' := Option.some.inj (hg.symm.trans hg')
  obtain ⟨-, hsum, hordered, hrange, hnever, habove, hcursor, hflight⟩ := hlaw
  obtain ⟨e, he, hep, hed⟩ := (hflight p).mp hp
  have hlen := length_withoutEntry hordered he
  rw [hep] at hlen
  have hinFlight : ∀ q, q ∈ drainPositions s.dport ↔
      ∃ x ∈ withoutEntry g.entries p, x.entry.position = q ∧ x.drain = .inFlight := by
    intro q
    rw [hiff q, hflight q]
    constructor
    · rintro ⟨⟨x, hx, rfl, hxd⟩, hne⟩
      exact ⟨x, mem_withoutEntry.mpr ⟨hx, hne⟩, rfl, hxd⟩
    · rintro ⟨x, hx, rfl, hxd⟩
      obtain ⟨hx, hne⟩ := mem_withoutEntry.mp hx
      exact ⟨⟨x, hx, rfl, hxd⟩, hne⟩
  refine ⟨hnodup, horphan, _, c, rfl, hc, fun hnil => ?_, fun hne => ?_⟩
  · have hnil : withoutEntry g.entries p = [] := hnil
    rw [List.eq_nil_iff_forall_not_mem]
    intro q hq
    obtain ⟨x, hx, -⟩ := (hinFlight q).mp hq
    rw [hnil] at hx
    cases hx
  · constructor
    case remaining => exact hne
    case counts => simp only; omega
    case ordered => exact hordered.sublist (List.filter_sublist.map _)
    case inRange => exact fun x hx => hrange x (mem_withoutEntry.mp hx).1
    case neverIssued => exact fun x hx => hnever x (mem_withoutEntry.mp hx).1
    case allAbove =>
      intro q hq hle
      obtain ⟨x, hx, hxq⟩ := habove q hq hle
      refine ⟨x, mem_withoutEntry.mpr ⟨hx, fun hxp => ?_⟩, hxq⟩
      obtain rfl := eq_of_position hordered hx he (hxp.trans hep.symm)
      have hpending := ((hnever x hx).mp (hxq ▸ hq)).1
      rw [hed] at hpending
      cases hpending
    case cursorRange => exact hcursor
    case inFlight => exact hinFlight

/-- A retry: the entry is PENDING again, with one more retry used (R12). -/
theorem drainLaw_retry {s : State} {p : Nat} (h : WriteLeft s p) {g : SealedGen} (hg : s.store.sealedGen = some g) :
    DrainLaw (s.setStore (withSealed s.store
      { g with entries := changeEntry p (fun x => { x with drain := .pending, retries := x.retries + 1 }) g.entries })) := by
  obtain ⟨g', c, d, hg', hc, hlaw, hp, hnodup, horphan, hiff⟩ := h
  obtain rfl : g = g' := Option.some.inj (hg.symm.trans hg')
  obtain ⟨hremaining, hsum, hordered, hrange, hnever, habove, hcursor, hflight⟩ := hlaw
  obtain ⟨e, he, hep, hed⟩ := (hflight p).mp hp
  refine ⟨hnodup, horphan, fun hnone => (by cases hnone), fun h' hh' => ⟨c, hc, ?_⟩⟩
  obtain rfl := Option.some.inj hh'
  have hmem : ∀ x, x ∈ changeEntry p (fun x => { x with drain := .pending, retries := x.retries + 1 }) g.entries ↔
      ∃ y ∈ g.entries, (if y.entry.position == p then { y with drain := .pending, retries := y.retries + 1 } else y) = x :=
    fun x => List.mem_map
  have hpositions : (changeEntry p (fun x => { x with drain := .pending, retries := x.retries + 1 }) g.entries).map
      (fun x => x.entry.position) = g.entries.map fun x => x.entry.position := by
    have hentries := congrArg (List.map fun e : Entry => e.position)
      (map_entry_changeEntry p (f := fun x => { x with drain := .pending, retries := x.retries + 1 }) (fun _ => rfl)
        g.entries)
    rwa [List.map_map, List.map_map] at hentries
  constructor
  case remaining => simpa [changeEntry] using hremaining
  case counts => simpa [changeEntry] using hsum
  case ordered => rwa [hpositions]
  case inRange =>
    intro x hx
    obtain ⟨y, hy, rfl⟩ := (hmem x).mp hx
    have hr := hrange y hy
    split <;> exact hr
  case neverIssued =>
    intro x hx
    obtain ⟨y, hy, rfl⟩ := (hmem x).mp hx
    split
    · next hyp =>
      obtain rfl := eq_of_position hordered hy he ((beq_iff_eq.mp hyp).trans hep.symm)
      have hno : ¬ c ≤ y.entry.position := fun hle => by
        have hpending := ((hnever y hy).mp hle).1
        rw [hed] at hpending
        cases hpending
      simpa using hno
    · exact hnever y hy
  case allAbove =>
    intro q hq hle
    obtain ⟨y, hy, hyq⟩ := habove q hq hle
    refine ⟨_, (hmem _).mpr ⟨y, hy, rfl⟩, ?_⟩
    split <;> exact hyq
  case cursorRange => exact hcursor
  case inFlight =>
    intro q
    rw [State.setStore_dport, hiff q, hflight q]
    constructor
    · rintro ⟨⟨y, hy, rfl, hyd⟩, hne⟩
      exact ⟨y, (hmem y).mpr ⟨y, hy, by simp [hne]⟩, rfl, hyd⟩
    · rintro ⟨x, hx, rfl, hxd⟩
      obtain ⟨y, hy, rfl⟩ := (hmem x).mp hx
      split at hxd
      · cases hxd
      · next hne =>
        rw [if_neg hne]
        exact ⟨⟨y, hy, rfl, hxd⟩, by simpa using hne⟩

/-! ### The retirement (R70) -/

theorem keepsMost_setDrain (s : State) (x : DrainEngine) : KeepsMost s (s.setDrain x) := {}

theorem keepsMost_dropSealed (s : State) : KeepsMost s (s.setStore { s.store with sealedGen := none }) where
  uport law := law.of_eq rfl rfl id
  store _ law := by
    obtain ⟨hslots, hbody, hpositions, hwords, -, hformed, -, hwindows⟩ := law
    refine ⟨?_, hbody, hpositions, hwords, List.nodup_nil, hformed, by simp [sealedEntries], hwindows⟩
    rw [slots_iff] at hslots ⊢
    exact Nat.le_trans (Nat.add_le_add_left (Nat.zero_le _) _) hslots

theorem keepsMost_endGeneration (g : SealedGen) (s : State) : KeepsMost s (endGeneration g s) := by
  have hrecord : KeepsMost s (raiseCause .commitDone (appendRecord (retirementRecord g s.now) s)) :=
    ((keeps_appendRecord _ s).trans (keeps_raiseCause _ _)).toKeepsMost
  exact (hrecord.trans (keepsMost_dropSealed _)).trans (keepsMost_setDrain _ _)

theorem keepsMost_retire (g : SealedGen) (s : State) : KeepsMost s (retire g s) :=
  ((keepsMost_endGeneration g s).trans (keeps_permissionReturn _).toKeepsMost).trans (keeps_reopenPort _).toKeepsMost

theorem keepsMost_retireIfDrained (s : State) : KeepsMost s (retireIfDrained s) := by
  unfold retireIfDrained
  split
  · exact (Keeps.refl s).toKeepsMost
  · split
    · exact keepsMost_retire _ s
    · exact (Keeps.refl s).toKeepsMost

/-- A generation that is ending has the law again once it has retired, if nothing is left of it. -/
theorem drainLaw_retireIfDrained {s : State} (h : DrainEnding s) (tags : TagLaw s) (uport : UPortLaw s)
    (store : StoreLaw s) : DrainLaw (retireIfDrained s) := by
  obtain ⟨hnodup, horphan, g, c, hg, hc, hempty, hlaw⟩ := h
  unfold retireIfDrained
  simp only [hg]
  split
  · next hnil =>
    have hended : DrainLaw (endGeneration g s) := by
      have hnone := hempty (List.isEmpty_iff.mp hnil)
      refine ⟨by simpa [endGeneration] using hnodup, by simpa [endGeneration] using horphan,
        fun _ => ⟨rfl, rfl, by simpa [endGeneration] using hnone⟩, fun x hx => ?_⟩
      simp [endGeneration] at hx
    have hend := keepsMost_endGeneration g s
    exact ((keeps_permissionReturn _).trans (keeps_reopenPort _)).drain (hend.tags tags) (hend.uport uport)
      (hend.store uport store) hended
  · next hsome =>
    refine ⟨hnodup, horphan, fun hnone => ?_, fun x hx => ⟨c, hc, ?_⟩⟩
    · rw [hg] at hnone
      cases hnone
    · obtain rfl := Option.some.inj (hg.symm.trans hx)
      exact hlaw (by simpa using hsome)

end Sys2Proof.Machine

/-! SUPPORT. The outcome of a downstream request at its origin, grants, and the deadline keep the laws. -/

namespace Sys2Proof.Machine

/-! ### A taking attempt leaves the sealed generation -/

@[simp] theorem spillHead_sealedGen (e : UrqEntry) (c : Classification) (s : State) :
    (spillHead e c s).store.sealedGen = s.store.sealedGen := by
  unfold spillHead
  dsimp only
  split <;> simp

@[simp] theorem notStageable_sealedGen (e : UrqEntry) (c : Classification) (p : Policy) (s : State) :
    (notStageable e c p s).store.sealedGen = s.store.sealedGen := by
  cases p <;> simp [notStageable]

@[simp] theorem takeStagedWrite_sealedGen (e : UrqEntry) (w : Window) (p : Policy) (v : View) (run : RunState)
    (s : State) : (takeStagedWrite e w p v run s).store.sealedGen = s.store.sealedGen := by
  unfold takeStagedWrite
  cases run <;> dsimp only
  · split <;> simp
  · simp

@[simp] theorem attemptTaking_sealedGen (e : UrqEntry) (s : State) :
    (attemptTaking e s).store.sealedGen = s.store.sealedGen := by
  unfold attemptTaking
  split
  · simp
  · split <;> simp

@[simp] theorem reportFreedSlots_sealedGen (s : State) : (reportFreedSlots s).store.sealedGen = s.store.sealedGen := by
  unfold reportFreedSlots
  split
  · rfl
  · split <;> simp

/-! ### Ends of drain writes (R13, R66, R67) -/

/-- A freeing is reported and the generation retires if nothing is left: every law but the Drain Engine's. -/
theorem keepsMost_afterFreeing (s : State) : KeepsMost s (retireIfDrained (reportFreedSlots s)) :=
  (keeps_reportFreedSlots s).toKeepsMost.trans (keepsMost_retireIfDrained _)

/-- And the Drain Engine's law holds again after it. -/
theorem drainLaw_afterFreeing {s : State} (h : DrainEnding s) (tags : TagLaw s) (uport : UPortLaw s)
    (store : StoreLaw s) : DrainLaw (retireIfDrained (reportFreedSlots s)) := by
  have hreport := keeps_reportFreedSlots s
  exact drainLaw_retireIfDrained (h.of_eq (by simp) (by simp) (by simp)) (hreport.tags tags) (hreport.uport uport)
    (hreport.store uport store)

/-- Under the law a write that left the list has its entry in flight. -/
theorem WriteLeft.entry {s : State} {p : Nat} (h : WriteLeft s p) :
    ∃ g e, s.store.sealedGen = some g ∧ inFlightEntry g p = some e := by
  obtain ⟨g, c, d, hg, -, hlaw, hp, -⟩ := h
  obtain ⟨x, hx, hxp, hxd⟩ := (hlaw.inFlight p).mp hp
  obtain ⟨e, he⟩ := inFlightEntry_isSome hx hxp hxd
  exact ⟨g, e, hg, he⟩

/-- The state after an entry has left its slot into the drain-done count. -/
def doneStore (p : Nat) (g : SealedGen) (s : State) : State :=
  s.setStore (withSealed s.store { g with entries := withoutEntry g.entries p, doneCount := g.doneCount + 1 })

theorem drainDone_eq {s : State} {p : Nat} {g : SealedGen} {e : SealedEntry} (hg : s.store.sealedGen = some g)
    (he : inFlightEntry g p = some e) : drainDone p s = retireIfDrained (reportFreedSlots (doneStore p g s)) := by
  simp only [drainDone, hg, he]
  rfl

theorem keepsMost_doneStore {s : State} (p : Nat) {g : SealedGen} (hg : s.store.sealedGen = some g) :
    KeepsMost s (doneStore p g s) :=
  keepsMost_withSealed hg (withoutEntry_sublist _ _)

theorem keepsMost_drainDone (p : Nat) (s : State) : KeepsMost s (drainDone p s) := by
  cases hg : s.store.sealedGen with
  | none => simpa [drainDone, hg] using (Keeps.refl s).toKeepsMost
  | some g =>
    cases he : inFlightEntry g p with
    | none => simpa [drainDone, hg, he] using (Keeps.refl s).toKeepsMost
    | some e =>
      rw [drainDone_eq hg he]
      exact (keepsMost_doneStore p hg).trans (keepsMost_afterFreeing _)

theorem drainLaw_drainDone {s : State} {p : Nat} (h : WriteLeft s p) (tags : TagLaw s) (uport : UPortLaw s)
    (store : StoreLaw s) : DrainLaw (drainDone p s) := by
  obtain ⟨g, e, hg, he⟩ := h.entry
  have hdone := keepsMost_doneStore p hg
  rw [drainDone_eq hg he]
  exact drainLaw_afterFreeing (drainEnding_withoutEntry h hg (Nat.add_right_comm ..)) (hdone.tags tags)
    (hdone.uport uport) (hdone.store uport store)

/-- The state after an entry has left its slot into the dropped count, its window FAULTED and DRAIN_DROP raised. -/
def droppedState (g : SealedGen) (e : SealedEntry) (s : State) : State :=
  raiseCause .drainDrop (faultWindow e.entry.window (s.setStore (withSealed s.store
    { g with entries := withoutEntry g.entries e.entry.position, droppedCount := g.droppedCount + 1 })))

theorem drainDropped_eq (g : SealedGen) (e : SealedEntry) (s : State) :
    drainDropped g e s = retireIfDrained (reportFreedSlots (droppedState g e s)) := rfl

theorem keeps_faultWindow (w : Window) (s : State) : Keeps s (faultWindow w s) :=
  keeps_setWindows _ fun law => law.of_eq rfl rfl

theorem keepsMost_droppedState {s : State} {g : SealedGen} (hg : s.store.sealedGen = some g) (e : SealedEntry) :
    KeepsMost s (droppedState g e s) :=
  (keepsMost_withSealed hg (withoutEntry_sublist _ _)).trans
    ((keeps_faultWindow _ _).trans (keeps_raiseCause _ _)).toKeepsMost

theorem keepsMost_drainFailed (p : Nat) (s : State) : KeepsMost s (drainFailed p s) := by
  unfold drainFailed
  split
  · exact (Keeps.refl s).toKeepsMost
  · next g hg =>
    split
    · exact (Keeps.refl s).toKeepsMost
    · split
      · have hentries := map_entry_changeEntry p
          (f := fun x => { x with drain := .pending, retries := x.retries + 1 }) (fun _ => rfl) g.entries
        exact keepsMost_withSealed hg (by rw [hentries])
      · rw [drainDropped_eq]
        exact (keepsMost_droppedState hg _).trans (keepsMost_afterFreeing _)

theorem drainLaw_drainFailed {s : State} {p : Nat} (h : WriteLeft s p) (tags : TagLaw s) (uport : UPortLaw s)
    (store : StoreLaw s) : DrainLaw (drainFailed p s) := by
  obtain ⟨g, e, hg, he⟩ := h.entry
  obtain ⟨-, hposition, -⟩ := inFlightEntry_spec he
  simp only [drainFailed, hg, he]
  split
  · exact drainLaw_retry h hg
  · have hdropped := keepsMost_droppedState hg e
    have hending := drainEnding_withoutEntry (done := g.doneCount) (dropped := g.droppedCount + 1) h hg rfl
    rw [drainDropped_eq]
    refine drainLaw_afterFreeing (hending.of_eq ?_ ?_ ?_) (hdropped.tags tags) (hdropped.uport uport)
      (hdropped.store uport store)
    · simp [droppedState, hposition]
    · simp [droppedState]
    · simp [droppedState]

/-! ### The outcome at the origin (R74, R75) -/

theorem keepsMost_deliver (o : Origin) (a : Answer) (s : State) : KeepsMost s (deliver o a s) := by
  cases o with
  | read n => exact (keeps_answerUpstream n a s).toKeepsMost
  | write n => exact (keeps_answerUpstream n a s).toKeepsMost
  | spill n => exact (keeps_answerUpstream n a s).toKeepsMost
  | drain p =>
    cases a with
    | ok data => exact keepsMost_drainDone p s
    | error => exact keepsMost_drainFailed p s

theorem keeps_deliver_of_upstream {o : Origin} (h : isDrain o = false) (a : Answer) (s : State) :
    Keeps s (deliver o a s) := by
  cases o with
  | read n => exact keeps_answerUpstream n a s
  | write n => exact keeps_answerUpstream n a s
  | spill n => exact keeps_answerUpstream n a s
  | drain p => cases h

theorem drainLaw_deliver {s : State} {p : Nat} (h : WriteLeft s p) (a : Answer) (tags : TagLaw s) (uport : UPortLaw s)
    (store : StoreLaw s) : DrainLaw (deliver (.drain p) a s) := by
  cases a with
  | ok data => exact drainLaw_drainDone h tags uport store
  | error => exact drainLaw_drainFailed h tags uport store

/-! ### Members that leave the list, and stale tags (R74 to R76) -/

theorem keepsMost_removeMember (t : Tag) (s : State) : KeepsMost s (removeMember t s) where
  tags law := law.removeMember t
  settings h := h.of_parts (by simp) rfl rfl rfl id

theorem keeps_removeMember_of_upstream {s : State} {t : Tag} {m : InFlight} (hm : memberWithTag s.dport t = some m)
    (ho : DrainLaw s → isDrain m.origin = false) : Keeps s (removeMember t s) where
  toKeepsMost := keepsMost_removeMember t s
  drain tags _ _ law := by
    obtain ⟨hmem, rfl⟩ := mem_of_memberWithTag hm
    have hpositions := drainPositions_removeMember_of_upstream tags hmem (ho law)
    obtain ⟨hone, horphan, habsent, hpresent⟩ := law
    refine ⟨by rwa [hpositions], fun x hx => horphan x (List.mem_filter.mp hx).1, fun hnone => ?_, fun g hg => ?_⟩
    · rw [hpositions]
      exact habsent hnone
    · obtain ⟨c, hc, hlaw⟩ := hpresent g hg
      obtain ⟨h1, h2, h3, h4, h5, h6, h7, h8⟩ := hlaw
      exact ⟨c, hc, h1, h2, h3, h4, h5, h6, h7, by rwa [hpositions]⟩

theorem keeps_removeStale (t : Tag) (s : State) : Keeps s (removeStale t s) where
  tags law := law.removeStale t
  settings h := h.of_parts (by simp) rfl rfl rfl id
  drain _ _ _ h := h.of_eq (by simp) (by simp) rfl

theorem keeps_addStale {t : Tag} {s : State} (h : TagLaw s → t ∉ tagsInUse s.dport) : Keeps s (addStale t s) where
  tags law := law.addStale (h law)
  settings h := h.of_parts (by simp) rfl rfl rfl id
  drain _ _ _ h := h.of_eq (by simp) (by simp) rfl

/-- The tag of a member that has left the list is not in use. -/
theorem not_inUse_of_removed {s : State} (law : TagLaw s) {t : Tag} {m : InFlight}
    (hm : memberWithTag s.dport t = some m) : t ∉ tagsInUse (removeMember t s).dport := by
  obtain ⟨hmem, rfl⟩ := mem_of_memberWithTag hm
  refine not_inUse_removeMember fun hstale => ?_
  exact (List.nodup_append.mp law).2.2 _ (List.mem_map_of_mem hmem) _ hstale rfl

end Sys2Proof.Machine

/-! SUPPORT. Responses, timeouts, grants, the deadline and the resets keep the laws. -/

namespace Sys2Proof.Machine

/-! ### DOWNSTREAM_RESPONSE and DOWNSTREAM_TIMEOUT_EXPIRY (R74 to R77) -/

/-- An orphan is no drain write. -/
theorem DrainLaw.upstream_of_orphan {s : State} (law : DrainLaw s) {t : Tag} {m : InFlight}
    (hm : memberWithTag s.dport t = some m) (horphan : m.orphan = true) : isDrain m.origin = false := by
  cases ho : isDrain m.origin with
  | false => rfl
  | true =>
    rw [law.noOrphan m (mem_of_memberWithTag hm).1 ho] at horphan
    cases horphan

theorem drainPosition_of_isDrain {o : Origin} (h : isDrain o = true) : ∃ p, o = .drain p := by
  cases o with
  | drain p => exact ⟨p, rfl⟩
  | read _ | write _ | spill _ => cases h

/-- The Drain Engine's law after a member of an upstream origin has left the list, whatever else is written beside. -/
theorem DrainLaw.after_removal {s t : State} {tag : Tag} {m : InFlight} (law : DrainLaw s) (tags : TagLaw s)
    (uport : UPortLaw s) (stored : StoreLaw s) (hm : memberWithTag s.dport tag = some m)
    (ho : isDrain m.origin = false) (store : t.store = s.store) (drain : t.drain = s.drain)
    (inFlight : t.dport.inFlight = (removeMember tag s).dport.inFlight) : DrainLaw t :=
  ((keeps_removeMember_of_upstream hm fun _ => ho).drain tags uport stored law).of_eq (by rw [store]; simp)
    (by rw [drain]; simp) inFlight

/-- A member leaves the list, whatever is written beside that keeps the other laws, and its origin receives the outcome. -/
theorem keeps_deliver_after {s t : State} {tag : Tag} {m : InFlight} (hm : memberWithTag s.dport tag = some m)
    (after : KeepsMost s t) (store : t.store = s.store) (drain : t.drain = s.drain)
    (inFlight : t.dport.inFlight = (removeMember tag s).dport.inFlight) (a : Answer) :
    Keeps s (deliver m.origin a t) where
  toKeepsMost := after.trans (keepsMost_deliver m.origin a t)
  drain tags uport stored law := by
    have htags := after.tags tags
    have huport := after.uport uport
    have hstored := after.store uport stored
    cases ho : isDrain m.origin with
    | false =>
      exact (keeps_deliver_of_upstream ho a t).drain htags huport hstored
        (law.after_removal tags uport stored hm ho store drain inFlight)
    | true =>
      obtain ⟨p, hp⟩ := drainPosition_of_isDrain ho
      obtain ⟨hmem, rfl⟩ := mem_of_memberWithTag hm
      have hleft := (writeLeft_removeMember tags law hmem hp).of_eq (t := t) (by rw [store]; simp) (by rw [drain]; simp)
        inFlight
      rw [hp]
      exact drainLaw_deliver hleft a htags huport hstored

theorem keeps_execDownstreamResponse (tag : Tag) (a : Answer) (s : State) :
    NextHas (Keeps s) (execDownstreamResponse tag a s) := by
  obtain ⟨-, heq⟩ | ⟨m, hm, ⟨horphan, heq⟩ | ⟨-, b, n, heq⟩⟩ := execDownstreamResponse_cases tag a s
  · rw [heq]
    exact keeps_removeStale tag s
  · rw [heq]
    exact keeps_removeMember_of_upstream hm fun law => law.upstream_of_orphan hm horphan
  · rw [heq]
    exact (keeps_deliver_after hm (keepsMost_removeMember tag s) (by simp) (by simp) rfl b).trans (keeps_setDrawn _ n)

theorem expiredMember_spec {s : State} {t : Tag} {m : InFlight} (h : expiredMember s t = some m) :
    memberWithTag s.dport t = some m ∧ m.expiry ≤ s.now := by
  simpa [expiredMember, Option.filter_eq_some_iff] using h

/-- The state after the timeout of a member: its tag stale, the timeout raised (R75, R76). -/
def timedOut (tag : Tag) (s : State) : State :=
  raiseCause .downstreamTimeout (addStale tag (removeMember tag s))

theorem keepsMost_timedOut {s : State} {tag : Tag} {m : InFlight} (hm : memberWithTag s.dport tag = some m) :
    KeepsMost s (timedOut tag s) := by
  have hstale : KeepsMost s (addStale tag (removeMember tag s)) :=
    { tags := fun law => (law.removeMember tag).addStale (not_inUse_of_removed law hm)
      settings := fun h => h.of_parts (by simp) rfl rfl rfl id }
  exact hstale.trans (keeps_raiseCause _ _).toKeepsMost

theorem execDownstreamTimeoutExpiry_of_member {s : State} {tag : Tag} {m : InFlight}
    (h : expiredMember s tag = some m) :
    execDownstreamTimeoutExpiry tag s =
      .next (if m.orphan then timedOut tag s else deliver m.origin .error (timedOut tag s)) := by
  simp only [execDownstreamTimeoutExpiry, h]
  split <;> rfl

theorem keeps_execDownstreamTimeoutExpiry (tag : Tag) (s : State) :
    NextHas (Keeps s) (execDownstreamTimeoutExpiry tag s) := by
  cases h : expiredMember s tag with
  | none => simpa [execDownstreamTimeoutExpiry, h] using Keeps.refl s
  | some m =>
    obtain ⟨hm, -⟩ := expiredMember_spec h
    have hmost := keepsMost_timedOut hm
    rw [execDownstreamTimeoutExpiry_of_member h, nextHas_next]
    split
    · next horphan =>
      refine { toKeepsMost := hmost, drain := fun tags uport stored law => ?_ }
      exact law.after_removal tags uport stored hm (law.upstream_of_orphan hm horphan) (by simp [timedOut])
        (by simp [timedOut]) (by simp [timedOut, addStale])
    · exact keeps_deliver_after hm hmost (by simp [timedOut]) (by simp [timedOut]) (by simp [timedOut, addStale]) _

/-! ### Grants (R64, R65, R72, R79) -/

theorem keepsMost_issueOn {s : State} {t : Tag} (ht : lowestFreeTag s.dport = some t) (o : Origin) (r : Request)
    {share : Nat} (hshare : share ≤ Config.shareMax) (now : Nat) :
    KeepsMost s (s.setDport (issueOn t o r share now s.dport)) where
  tags law := law.issueOn (not_inUse_of_lowestFreeTag ht) o r share now
  settings h := h.of_parts (by simp) rfl rfl rfl fun _ => hshare

theorem drainPositions_issueOn (t : Tag) (o : Origin) (r : Request) (share now : Nat) (d : DPort) :
    drainPositions (issueOn t o r share now d) = drainPositions d ++ (drainPosition o).toList := by
  rw [drainPositions_eq, drainPositions_eq, issueOn, List.filterMap_append]
  cases h : drainPosition o <;> simp [h]

theorem noOrphan_issueOn {d : DPort} (h : ∀ m ∈ d.inFlight, isDrain m.origin = true → m.orphan = false) (t : Tag)
    (o : Origin) (r : Request) (share now : Nat) :
    ∀ m ∈ (issueOn t o r share now d).inFlight, isDrain m.origin = true → m.orphan = false := by
  intro m hm
  obtain hm | hm := List.mem_append.mp hm
  · exact h m hm
  · obtain rfl := List.mem_singleton.mp hm
    exact fun _ => rfl

theorem passOffer_mem {s : State} {f : Forward} (h : passOffer s = some f) : f ∈ s.uport.issueOrder := by
  unfold passOffer at h
  split at h
  · cases h
  · next g rest hissue =>
    rw [hissue]
    split at h
    · cases h
    · obtain rfl := Option.some.inj h
      exact List.mem_cons_self ..

/-- The issue of a forwarded request (R49, R73). -/
theorem keeps_issueForward {s : State} {t : Tag} {f : Forward} (ht : lowestFreeTag s.dport = some t)
    (hf : passOffer s = some f) : Keeps s (issueForward t f s) := by
  have hissued : Keeps s (s.setDport (issueOn t f.origin f.request 0 s.now s.dport)) :=
    { toKeepsMost := keepsMost_issueOn ht _ _ (Nat.zero_le _) _
      drain := fun _ uport _ law => by
        have hpositions := drainPositions_issueOn t f.origin f.request 0 s.now s.dport
        rw [drainPosition_of_upstream (uport.upstreamOnly f (passOffer_mem hf)), Option.toList_none, List.append_nil]
          at hpositions
        obtain ⟨hone, horphan, habsent, hpresent⟩ := law
        refine ⟨by rwa [State.setDport_dport, hpositions], noOrphan_issueOn horphan _ _ _ _ _, fun hnone => ?_, fun g hg => ?_⟩
        · rw [State.setDport_dport, hpositions]
          exact habsent hnone
        · obtain ⟨c, hc, h1, h2, h3, h4, h5, h6, h7, h8⟩ := hpresent g hg
          exact ⟨c, hc, h1, h2, h3, h4, h5, h6, h7, by rwa [State.setDport_dport, hpositions]⟩ }
  refine hissued.trans (keeps_setUport rfl fun law => law.update (List.Sublist.refl _) rfl rfl
    (fun _ horder hstall => ⟨?_, hstall⟩) fun g hg => .inl (List.mem_of_mem_drop hg))
  have hnil : s.uport.issueOrder = [] := horder
  simp [hnil]

theorem keeps_grantPass {s : State} {t : Tag} {f : Forward} (ht : lowestFreeTag s.dport = some t)
    (hf : passOffer s = some f) : Keeps s (grantPass t f s) := by
  unfold grantPass
  split
  · exact (keeps_issueForward ht hf).trans (keeps_takeHeldHead _)
  · exact keeps_issueForward ht hf

/-- What the drain offers is PENDING, and is due for retry or at the cursor (R64). -/
theorem drainOffer_spec {s : State} {e : SealedEntry} (h : drainOffer s = some e) :
    ∃ g, s.store.sealedGen = some g ∧ e ∈ g.entries ∧ e.drain = .pending ∧
      (0 < e.retries ∨ s.drain.cursor = some e.entry.position) := by
  unfold drainOffer at h
  split at h
  · cases h
  · next g hg =>
    split at h
    · next x hretry =>
      obtain rfl := Option.some.inj h
      have hx := List.find?_some hretry
      simp only [Bool.and_eq_true, beq_iff_eq, decide_eq_true_eq] at hx
      exact ⟨g, hg, List.mem_of_find?_eq_some hretry, hx.1, .inl hx.2⟩
    · unfold cursorOffer at h
      split at h
      · cases h
      · next c hc =>
        have hx := List.find?_some h
        simp only [Bool.and_eq_true, beq_iff_eq] at hx
        exact ⟨g, hg, List.mem_of_find?_eq_some h, hx.2, .inr (by rw [hc, hx.1])⟩

theorem mem_issueEntry {p : Nat} {g : SealedGen} {x : SealedEntry} :
    x ∈ (issueEntry p g).entries ↔
      ∃ y ∈ g.entries, (if y.entry.position == p then { y with drain := .inFlight } else y) = x :=
  List.mem_map

/-- The law of the generation whose offered entry is issued: the cursor moves on if it named the entry. -/
theorem SealedLaw.issueEntry {g : SealedGen} {c : Nat} {d d' : DPort} (law : SealedLaw g c d) {e : SealedEntry}
    (he : e ∈ g.entries) (hnamed : 0 < e.retries ∨ c = e.entry.position)
    (hpositions : drainPositions d' = drainPositions d ++ [e.entry.position]) :
    SealedLaw (Machine.issueEntry e.entry.position g) (if c = e.entry.position then e.entry.position + 1 else c) d' := by
  obtain ⟨hremaining, hsum, hordered, hrange, hnever, habove, hcursor, hflight⟩ := law
  have hentries := map_entry_changeEntry e.entry.position (f := fun x => { x with drain := .inFlight }) (fun _ => rfl)
    g.entries
  have hpos : (Machine.issueEntry e.entry.position g).entries.map (fun x => x.entry.position) =
      g.entries.map fun x => x.entry.position := by
    have h := congrArg (List.map fun x : Entry => x.position) hentries
    rwa [List.map_map, List.map_map] at h
  have hissuedBelow : c ≠ e.entry.position → ¬c ≤ e.entry.position := fun hne hle => by
    have hzero := ((hnever e he).mp hle).2
    exact hnamed.elim (fun h => by omega) hne
  constructor
  case remaining => simpa [Machine.issueEntry, changeEntry] using hremaining
  case counts => simpa [Machine.issueEntry, changeEntry] using hsum
  case ordered => rwa [hpos]
  case inRange =>
    intro x hx
    obtain ⟨y, hy, rfl⟩ := mem_issueEntry.mp hx
    have hr := hrange y hy
    split <;> exact hr
  case neverIssued =>
    intro x hx
    obtain ⟨y, hy, rfl⟩ := mem_issueEntry.mp hx
    have hy' := hnever y hy
    by_cases hyp : y.entry.position = e.entry.position
    · have hno : ¬(if c = e.entry.position then e.entry.position + 1 else c) ≤ y.entry.position := by
        split
        · omega
        · next hne => rw [hyp]; exact hissuedBelow hne
      rw [show (y.entry.position == e.entry.position) = true from beq_iff_eq.mpr hyp, if_pos rfl]
      exact ⟨fun h => absurd h hno, fun h => (by cases h.1)⟩
    · rw [show (y.entry.position == e.entry.position) = false from beq_eq_false_iff_ne.mpr hyp, if_neg Bool.false_ne_true,
        ← hy']
      split <;> omega
  case allAbove =>
    intro q hq hle
    have hcq : c ≤ q := by split at hq <;> omega
    obtain ⟨y, hy, hyq⟩ := habove q hcq hle
    refine ⟨_, mem_issueEntry.mpr ⟨y, hy, rfl⟩, ?_⟩
    split <;> exact hyq
  case cursorRange =>
    have hr := hrange e he
    have hcount : (Machine.issueEntry e.entry.position g).entryCount = g.entryCount := rfl
    rw [hcount]
    split <;> omega
  case inFlight =>
    intro q
    rw [hpositions, List.mem_append, List.mem_singleton, hflight q]
    constructor
    · rintro (⟨y, hy, rfl, hyd⟩ | rfl)
      · refine ⟨_, mem_issueEntry.mpr ⟨y, hy, rfl⟩, ?_⟩
        split <;> simp [hyd]
      · exact ⟨_, mem_issueEntry.mpr ⟨e, he, rfl⟩, by simp⟩
    · rintro ⟨x, hx, rfl, hxd⟩
      obtain ⟨y, hy, rfl⟩ := mem_issueEntry.mp hx
      by_cases hyp : y.entry.position = e.entry.position
      · simp [hyp]
      · rw [if_neg (by simpa using hyp)] at hxd ⊢
        exact .inl ⟨y, hy, rfl, hxd⟩

theorem keepsMost_setStore_issueEntry (p : Nat) (s : State) :
    KeepsMost s (s.setStore { s.store with sealedGen := s.store.sealedGen.map (issueEntry p) }) := by
  cases hg : s.store.sealedGen with
  | none =>
    have hsame : ({ s.store with sealedGen := none } : Store) = s.store := by rw [← hg]
    simp only [Option.map_none, hsame]
    exact (Keeps.refl s).toKeepsMost
  | some g =>
    have hentries := map_entry_changeEntry p (f := fun x => { x with drain := .inFlight }) (fun _ => rfl) g.entries
    exact keepsMost_withSealed hg (by rw [issueEntry, hentries])

theorem keeps_grantDrain {s : State} {t : Tag} {e : SealedEntry} (ht : lowestFreeTag s.dport = some t)
    (he : drainOffer s = some e) : Keeps s (grantDrain t e s) where
  toKeepsMost :=
    ((keepsMost_issueOn ht _ _ (Nat.min_le_right ..) _).trans (keepsMost_setStore_issueEntry e.entry.position _)).trans
      (keepsMost_setDrain _ _)
  drain tags _ _ law := by
    obtain ⟨g, hg, hmem, hpending, hnamed⟩ := drainOffer_spec he
    obtain ⟨hone, horphan, -, hpresent⟩ := law
    obtain ⟨c, hc, hlaw⟩ := hpresent g hg
    have hpositions := drainPositions_issueOn t (.drain e.entry.position) (drainRequest e)
      (min (s.dport.shareCounter + 1) Config.shareMax) s.now s.dport
    have hnew : e.entry.position ∉ drainPositions s.dport := fun hin => by
      obtain ⟨x, hx, hxp, hxd⟩ := (hlaw.inFlight _).mp hin
      obtain rfl := eq_of_position hlaw.ordered hx hmem hxp
      rw [hpending] at hxd
      cases hxd
    refine ⟨?_, noOrphan_issueOn horphan _ _ _ _ _, fun hnone => ?_, fun g' hg' =>
      ⟨if c = e.entry.position then e.entry.position + 1 else c, ?_, ?_⟩⟩
    · rw [show (grantDrain t e s).dport = issueOn t (.drain e.entry.position) (drainRequest e)
        (min (s.dport.shareCounter + 1) Config.shareMax) s.now s.dport from rfl, hpositions]
      refine List.nodup_append.mpr ⟨hone, List.nodup_singleton _, fun a ha b hb hab => ?_⟩
      obtain rfl := List.mem_singleton.mp hb
      exact hnew (hab ▸ ha)
    · simp [grantDrain, hg] at hnone
    · simp only [grantDrain, State.setDrain_drain, advanceCursor, hc, Option.some.injEq]
      split <;> rfl
    · obtain rfl : issueEntry e.entry.position g = g' := by simpa [grantDrain, hg] using hg'
      exact hlaw.issueEntry hmem (hnamed.imp_right fun h => Option.some.inj (hc.symm.trans h)) hpositions

theorem keeps_arbitrate (s : State) : Keeps s (arbitrate s) := by
  unfold arbitrate
  split
  · exact Keeps.refl s
  · next t ht =>
    split
    · exact Keeps.refl s
    · next f hf _ => exact keeps_grantPass ht hf
    · next e _ he => exact keeps_grantDrain ht he
    · next f e hf he =>
      split
      · exact keeps_grantDrain ht he
      · exact keeps_grantPass ht hf

/-! ### The deadline (R69) -/

theorem lateGeneration_spec {s : State} {g : SealedGen} (h : lateGeneration s = some g) :
    s.store.sealedGen = some g ∧ g.late = false ∧ g.deadline ≤ s.now := by
  simpa [lateGeneration, Option.filter_eq_some_iff] using h

theorem keeps_execDeadlineDue (s : State) : NextHas (Keeps s) (execDeadlineDue s) := by
  unfold execDeadlineDue
  split
  · exact Keeps.refl s
  · next g hlate =>
    obtain ⟨hg, -, -⟩ := lateGeneration_spec hlate
    refine { toKeepsMost := ?_, drain := fun _ _ _ law => ?_ }
    · exact ((keepsMost_withSealed (h := { g with late := true }) hg (List.Sublist.refl _)).trans
        (keeps_raiseCause _ _).toKeepsMost).trans (keepsMost_setDrain _ _)
    · obtain ⟨hone, horphan, -, hpresent⟩ := law
      obtain ⟨c, hc, h1, h2, h3, h4, h5, h6, h7, h8⟩ := hpresent g hg
      refine ⟨hone, horphan, fun hnone => (by cases hnone), fun g' hg' => ⟨c, hc, ?_⟩⟩
      obtain rfl := Option.some.inj hg'
      exact ⟨h1, h2, h3, h4, h5, h6, h7, h8⟩

end Sys2Proof.Machine

/-! SUPPORT. Resets, frame timing commands and management commands keep the laws; so does every command and every step, which
settles the statements about them. -/

namespace Sys2Proof.Machine

/-! ### SRSTN_ASSERTION (R16, R60, R77, R138) -/

theorem reportFreedSlots_of_no_stall {s : State} (h : s.uport.stall = none) : reportFreedSlots s = s := by
  simp [reportFreedSlots, h]

theorem discardOpen_of_empty {o : RecordOutcome} {s : State} (h : s.store.openBody = none) : discardOpen o s = s := by
  simp [discardOpen, h]

theorem discardOpen_of_body {o : RecordOutcome} {s : State} {b : OpenBody} (h : s.store.openBody = some b) :
    discardOpen o s = appendRecord (discardRecord o s.store.openNumber b)
      (s.setStore { s.store with openNumber := s.store.openNumber + 1#32, openBody := none }) := by
  simp [discardOpen, h]

/-- The port closed, SRSTn low. -/
def portClosed (s : State) : State :=
  (s.setUport (closePort s.uport)).setSrstn .low

/-- The assertion is the discard of the open generation, then the closing of the port, the orphans and the seal state: each
reaches a block of its own. -/
theorem assertReset_eq (s : State) :
    assertReset s =
      (((portClosed (discardOpen .resetDiscarded s)).setDport (orphanMembers s.dport)).setSealing
        (clearSealing s.sealing)) := by
  unfold assertReset
  dsimp only
  rw [reportFreedSlots_of_no_stall (by simp [closePort])]
  cases hb : s.store.openBody with
  | none => rw [discardOpen_of_empty hb, discardOpen_of_empty (by simpa using hb)]; rfl
  | some b =>
    rw [discardOpen_of_body hb]
    rw [discardOpen_of_body (s := ((s.setSrstn .low).setUport (closePort s.uport)).setDport (orphanMembers s.dport))
      (by simpa using hb)]
    rfl

@[simp] theorem discardOpen_openBody (o : RecordOutcome) (s : State) : (discardOpen o s).store.openBody = none := by
  cases hb : s.store.openBody with
  | none => rw [discardOpen_of_empty hb, hb]
  | some b => rw [discardOpen_of_body hb]; simp

theorem keeps_discardOpen (o : RecordOutcome) (s : State) : Keeps s (discardOpen o s) := by
  cases hb : s.store.openBody with
  | none =>
    rw [discardOpen_of_empty hb]
    exact Keeps.refl s
  | some b =>
    rw [discardOpen_of_body hb]
    refine Keeps.trans ?_ (keeps_appendRecord _ _)
    refine { uport := fun law => law.of_eq rfl rfl fun _ => rfl, store := fun _ law => ?_,
             drain := fun _ _ _ law => law.of_eq rfl rfl rfl }
    obtain ⟨hslots, -, -, -, hsealed, -, hformed, -⟩ := law
    refine ⟨?_, fun _ h => (by cases h), rfl, List.nodup_nil, hsealed, fun _ h => (by cases h), hformed,
      fun _ h => (by cases h)⟩
    rw [slots_iff] at hslots ⊢
    exact Nat.le_trans (Nat.add_le_add_right (Nat.zero_le _) _) hslots

/-- With the open generation empty the port may close. -/
theorem keeps_portClosed {s : State} (h : s.store.openBody = none) : Keeps s (portClosed s) where
  queue := rfl
  attention := id
  ring := id
  tags := id
  windows law := law.of_eq rfl rfl
  settings law := law.of_parts rfl rfl rfl rfl id rfl id id rfl id
  uport _ := ⟨Nat.zero_le _, fun _ he => (by cases he), fun _ => ⟨rfl, rfl, rfl, h⟩, fun hopen => (by cases hopen),
    fun _ hf => (by cases hf), List.Pairwise.nil, fun _ he => (by cases he)⟩
  store _ law := law.of_eq rfl
  drain _ _ _ law := law.of_eq rfl rfl rfl

/-- A member becomes an orphan, or stays as it is. -/
def orphaned (m : InFlight) : InFlight :=
  if isDrain m.origin then m else { m with orphan := true }

theorem orphaned_tag (m : InFlight) : (orphaned m).tag = m.tag := by
  unfold orphaned
  split <;> rfl

theorem orphaned_origin (m : InFlight) : (orphaned m).origin = m.origin := by
  unfold orphaned
  split <;> rfl

theorem orphanMembers_inFlight (d : DPort) : (orphanMembers d).inFlight = d.inFlight.map orphaned := rfl

theorem keeps_orphanMembers (s : State) : Keeps s (s.setDport (orphanMembers s.dport)) where
  tags law := by
    have hstale : (orphanMembers s.dport).stale = s.dport.stale := rfl
    unfold TagLaw tagsInUse
    rw [State.setDport_dport, orphanMembers_inFlight, hstale, List.map_map]
    simp only [Function.comp_def, orphaned_tag]
    exact law
  settings law := law.of_parts rfl rfl rfl rfl id
  drain _ _ _ law := by
    have hpositions : drainPositions (orphanMembers s.dport) = drainPositions s.dport := by
      rw [drainPositions_eq, drainPositions_eq, orphanMembers_inFlight, List.filterMap_map]
      simp only [Function.comp_def, orphaned_origin]
    obtain ⟨hone, horphan, habsent, hpresent⟩ := law
    refine ⟨by rwa [State.setDport_dport, hpositions], ?_, fun hnone => ?_, fun g hg => ?_⟩
    · intro m hm hdrain
      rw [State.setDport_dport, orphanMembers_inFlight] at hm
      obtain ⟨x, hx, rfl⟩ := List.mem_map.mp hm
      have hx' := horphan x hx
      rw [orphaned_origin] at hdrain
      simpa [orphaned, hdrain] using hx' hdrain
    · rw [State.setDport_dport, hpositions]
      exact habsent hnone
    · obtain ⟨c, hc, h1, h2, h3, h4, h5, h6, h7, h8⟩ := hpresent g hg
      exact ⟨c, hc, h1, h2, h3, h4, h5, h6, h7, by rwa [State.setDport_dport, hpositions]⟩

theorem keeps_assertReset (s : State) : Keeps s (assertReset s) := by
  have hdiscard := keeps_discardOpen .resetDiscarded s
  have hclosed := hdiscard.trans (keeps_portClosed (discardOpen_openBody .resetDiscarded s))
  have horphans := hclosed.trans (keeps_orphanMembers _)
  have hdport : (portClosed (discardOpen .resetDiscarded s)).dport = s.dport := by simp [portClosed]
  rw [hdport] at horphans
  rw [assertReset_eq]
  refine horphans.trans (keeps_setSealing _ fun law => law.of_parts (holdLimit := ?_) (holdCount := ?_))
  · simp [clearSealing, portClosed]
  · simp [clearSealing]

theorem keeps_execSrstnAssertion (s : State) : NextHas (Keeps s) (execSrstnAssertion s) := by
  unfold execSrstnAssertion
  split
  · exact keeps_assertReset s
  · exact Keeps.refl s

/-! ### SRSTN_DEASSERTION (R61) -/

theorem keeps_raiseSrstn (s : State) : Keeps s (s.setSrstn .high) where
  uport law := by
    obtain ⟨hdepth, hformed, hclosed, -, horder, hserials, hnext⟩ := law
    exact ⟨hdepth, hformed, hclosed, fun _ => rfl, horder, hserials, hnext⟩

theorem keeps_execSrstnDeassertion (s : State) : NextHas (Keeps s) (execSrstnDeassertion s) := by
  unfold execSrstnDeassertion
  split
  · exact ((keeps_raiseSrstn s).trans (keeps_permissionReturn _)).trans (keeps_reopenPort _)
  · exact Keeps.refl s

/-! ### POWER_ON_RESET: the laws of the power-on state -/

theorem attentionLaw_reset : AttentionLaw State.reset := by
  unfold AttentionLaw
  decide

theorem ringLaw_reset : RingLaw State.reset := ⟨Nat.zero_le _, List.Pairwise.nil⟩

theorem tagLaw_reset : TagLaw State.reset := List.nodup_nil

theorem descriptorFormed_reset : DescriptorFormed Descriptor.reset := by
  unfold DescriptorFormed
  decide

/-- A table without an enabled window has none that fails. -/
theorem failingWindow_of_disabled {table : List Descriptor} (h : ∀ w, (descriptorOf table w).enable = false) :
    failingWindow table = none := by
  rw [failingWindow, List.find?_eq_none]
  intro w _
  simp [windowFails, breaksLimit, overlaps, h]

theorem windowLaw_reset : WindowLaw State.reset where
  activeLength := rfl
  shadowLength := rfl
  activeFormed _ hd := List.eq_of_mem_replicate hd ▸ descriptorFormed_reset
  shadowFormed _ hd := List.eq_of_mem_replicate hd ▸ descriptorFormed_reset
  noneFails := failingWindow_of_disabled fun w => congrArg Descriptor.enable (descriptorOf_replicate_reset 16 w)

theorem activeSetLaw_reset : ActiveSetLaw Timing.reset := ⟨by decide, by decide, by decide⟩

theorem shadowSetLaw_reset : ShadowSetLaw Timing.reset := ⟨by decide, by decide, by decide⟩

theorem parameterLaw_reset : ParameterLaw State.reset.tracker := ⟨by decide, by decide, by decide, by decide⟩

theorem settingsLaw_reset : SettingsLaw State.reset where
  stallLimit := by decide
  dsTimeout := by decide
  retryLimit := by decide
  drainShare := by decide
  shareCounter := by decide
  holdLimit := by decide
  holdCount := by decide
  activeSet := activeSetLaw_reset
  shadowSet := shadowSetLaw_reset
  parameters := parameterLaw_reset

/-- An empty port is open exactly with SRSTn high, and then has its law. -/
theorem UPortLaw.of_empty {s : State} (urq : s.uport.urq = []) (order : s.uport.issueOrder = [])
    (stall : s.uport.stall = none) (body : s.store.openBody = none) (high : s.uport.isOpen = true → s.srstn = .high) :
    UPortLaw s where
  depth := by rw [urq]; exact Nat.zero_le _
  formed e he := by rw [urq] at he; cases he
  closedIsEmpty _ := ⟨urq, order, stall, body⟩
  openWhileHigh := high
  upstreamOnly f hf := by rw [order] at hf; cases hf
  serials := by rw [urq]; exact List.Pairwise.nil
  nextIsNew e he := by rw [urq] at he; cases he

theorem storeLaw_reset : StoreLaw State.reset where
  slots := by decide
  body _ h := by cases h
  openPositions := rfl
  openWords := List.nodup_nil
  sealedWords := List.nodup_nil
  openFormed _ h := by cases h
  sealedFormed _ h := by cases h
  openWindows _ h := by cases h

theorem drainLaw_reset : DrainLaw State.reset where
  oneEach := List.nodup_nil
  noOrphan _ h := by cases h
  absent _ := ⟨rfl, rfl, rfl⟩
  present _ h := by cases h

theorem timingLaw_reset : TimingLaw State.reset where
  activeSet := activeSetLaw_reset
  parameters := parameterLaw_reset
  enabled h := by cases h
  states := ⟨rfl, rfl, by decide⟩

/-- Settles O8: each law by its own lemma on the power-on values. -/
theorem soundAtReset : Obligations.SoundAtReset where
  attention := attentionLaw_reset
  ring := ringLaw_reset
  tags := tagLaw_reset
  uport := UPortLaw.of_empty rfl rfl rfl rfl fun _ => rfl
  store := storeLaw_reset
  drain := drainLaw_reset
  windows := windowLaw_reset
  settings := settingsLaw_reset
  timing := timingLaw_reset

theorem keeps_execPowerOnReset (srstn mcsn : Level) (s : State) :
    NextHas (Keeps s) (execPowerOnReset srstn mcsn s) where
  queue := rfl
  attention _ := attentionLaw_reset
  ring _ := ringLaw_reset
  tags _ := tagLaw_reset
  windows _ := windowLaw_reset.of_eq rfl rfl
  settings _ := settingsLaw_reset.of_parts rfl rfl rfl rfl id rfl id id rfl id
  uport _ := UPortLaw.of_empty rfl rfl rfl rfl fun h => eq_of_beq h
  store _ _ := storeLaw_reset.of_eq rfl
  drain _ _ _ _ := drainLaw_reset.of_eq rfl rfl rfl

/-! ### Frame timing commands (chapters 5 and 6) -/

/-- The parameters of a tracker, which its events leave as they are (R104). -/
def parametersOf (t : Tracker) : Nat × Nat × Nat × Nat × Nat :=
  (t.tolNarrow, t.tolWide, t.nAcq, t.nLock, t.holdoverLimit)

theorem ParameterLaw.of_parameters {t u : Tracker} (law : ParameterLaw t) (h : parametersOf u = parametersOf t) :
    ParameterLaw u := by
  simp only [parametersOf, Prod.mk.injEq] at h
  obtain ⟨hnarrow, hwide, hacq, hlock, hlimit⟩ := h
  obtain ⟨htol, h1, h2, h3⟩ := law
  exact ⟨by rwa [hnarrow, hwide], by rwa [hacq], by rwa [hlock], by rwa [hlimit]⟩

theorem keeps_setTracker_of_parameters {s : State} {x : Tracker} (h : parametersOf x = parametersOf s.tracker) :
    Keeps s (s.setTracker x) :=
  keeps_setTracker x fun law => law.of_parameters h

theorem keeps_changeTracker_of_parameters {s : State} {x : Tracker} (cs : List Cause)
    (h : parametersOf x = parametersOf s.tracker) : Keeps s (changeTracker x cs s) :=
  keeps_changeTracker x cs s fun law => law.of_parameters h

theorem keeps_execSealPoint (s : State) : NextHas (Keeps s) (execSealPoint s) := by
  unfold execSealPoint
  split
  · exact (keeps_offerSealPoint _ _ s).trans (keeps_setTimer_of_sets (by simp) (by simp))
  · exact Keeps.refl s

theorem keeps_dropPassedReference (s : State) : Keeps s (dropPassedReference s) := by
  obtain h | h := dropPassedReference_cases s
  · rw [h]
    exact Keeps.refl s
  · rw [h]
    exact keeps_setTracker_of_parameters rfl

theorem keeps_endHoldoverFrame (s : State) : Keeps s (endHoldoverFrame s) := by
  unfold endHoldoverFrame
  split
  · exact keeps_changeTracker_of_parameters _ rfl
  · exact keeps_setTracker_of_parameters rfl

theorem keeps_execFrameBoundary (s : State) : NextHas (Keeps s) (execFrameBoundary s) := by
  have hboundary := keeps_takeBoundary s
  unfold execFrameBoundary
  split
  · cases s.tracker.state with
    | free => exact hboundary
    | acquire => exact hboundary.trans (keeps_dropPassedReference _)
    | track => exact hboundary
    | locked => exact hboundary
    | holdover => exact hboundary.trans (keeps_endHoldoverFrame _)
  · exact Keeps.refl s

theorem keeps_takeReference (s : State) : Keeps s (takeReference s) := keeps_setTracker_of_parameters rfl

theorem keeps_measureInterval (i : Nat) (c : IntervalClass) (s : State) : Keeps s (measureInterval i c s) :=
  keeps_setTracker_of_parameters rfl

theorem keeps_acquireEdge (i : Nat) (s : State) : Keeps s (acquireEdge i s) := by
  have hmeasured := keeps_measureInterval i (classOf i s.timer.active.period s.tracker.tolNarrow s.tracker.tolWide) s
  unfold acquireEdge
  dsimp only
  split
  · split
    · exact (hmeasured.trans (keeps_takeBoundary _)).trans (keeps_changeTracker_of_parameters _ rfl)
    · exact hmeasured.trans (keeps_setTracker_of_parameters rfl)
  · exact hmeasured.trans (keeps_setTracker_of_parameters rfl)

theorem keeps_earlyEdge (s : State) : Keeps s (earlyEdge s) := keeps_changeTracker_of_parameters _ rfl

theorem keeps_wideEdge (s : State) : Keeps s (wideEdge s) :=
  (keeps_takeBoundary s).trans (keeps_changeTracker_of_parameters _ rfl)

theorem keeps_narrowEdgeInTrack (s : State) : Keeps s (narrowEdgeInTrack s) := by
  have hboundary := keeps_takeBoundary s
  unfold narrowEdgeInTrack
  dsimp only
  split
  · exact hboundary.trans (keeps_changeTracker_of_parameters _ rfl)
  · exact hboundary.trans (keeps_setTracker_of_parameters rfl)

theorem keeps_trackEdge (i : Nat) (s : State) : NextHas (Keeps s) (trackEdge i s) := by
  have hmeasured := keeps_measureInterval i (classOf i s.timer.active.period s.tracker.tolNarrow s.tracker.tolWide) s
  unfold trackEdge
  dsimp only
  split
  · rw [nextHas_next]
    split
    · exact hmeasured.trans ((keeps_takeBoundary _).trans (keeps_takeReference _))
    · exact hmeasured.trans (keeps_narrowEdgeInTrack _)
  · exact hmeasured.trans (keeps_wideEdge _)
  · exact hmeasured.trans (keeps_earlyEdge _)
  · trivial

theorem keeps_holdoverEdge (s : State) : Keeps s (holdoverEdge s) := by
  unfold holdoverEdge
  split
  · exact (keeps_takeBoundary s).trans (keeps_changeTracker_of_parameters _ rfl)
  · split
    · exact (keeps_realign s).trans (keeps_changeTracker_of_parameters _ rfl)
    · exact Keeps.refl s

theorem keeps_handleEdge (s : State) : NextHas (Keeps s) (handleEdge s) := by
  unfold handleEdge
  split
  · exact Keeps.refl s
  · exact keeps_holdoverEdge s
  · exact keeps_takeReference s
  · exact keeps_takeReference s
  · exact keeps_takeReference s
  · exact keeps_acquireEdge _ s
  · exact keeps_trackEdge _ s
  · exact keeps_trackEdge _ s

theorem NextHas.imp {P Q : State → Prop} {o : Host.Outcome State Fault Refusal} (h : NextHas P o)
    (k : ∀ t, P t → Q t) : NextHas Q o := by
  rw [nextHas_iff] at h ⊢
  exact fun t ht => k t (h t ht)

theorem keeps_execSyncEdge (s : State) : NextHas (Keeps s) (execSyncEdge s) :=
  (keeps_handleEdge (clearEdgeMark s)).imp fun _ h => (keeps_setSync s _).trans h

theorem keeps_missingInTrack (s : State) : Keeps s (missingInTrack s) := by
  refine (keeps_takeBoundary s).trans (keeps_changeTracker_of_parameters _ ?_)
  split <;> rfl

theorem keeps_execMissingSyncPoint (s : State) : NextHas (Keeps s) (execMissingSyncPoint s) := by
  unfold execMissingSyncPoint
  split
  · split
    · exact keeps_setTracker_of_parameters rfl
    · exact keeps_missingInTrack s
  · exact Keeps.refl s

end Sys2Proof.Machine

/-! SUPPORT. Management commands keep the laws, and so do every command and every step, which settles the statements that
every step keeps a law and that no command touches the queue. -/

namespace Sys2Proof.Machine

/-! ### Item writes (R29, R95, R104 to R106, R118, R184) -/

theorem keeps_runCommand {i : Instr} {act : State → State × Option (List Byte)} {s : State}
    (h : Keeps s (act s).1) : NextHas (Keeps s) (runCommand i act s) :=
  runCommand_has _ i act s (Keeps.refl s) fun _ => h.trans (keeps_setManagement _ _)

theorem keeps_runWrite {i : Instr} {write : State → State × ReplyCode} {s : State} (h : Keeps s (write s).1) :
    NextHas (Keeps s) (runCommand i (fun t => withCode (write t)) s) :=
  keeps_runCommand (act := fun t => withCode (write t)) h

theorem keeps_runReading {i : Instr} (answer : State → Option (List Byte)) {s : State} :
    NextHas (Keeps s) (runCommand i (fun t => (t, answer t)) s) :=
  keeps_runCommand (act := fun t => (t, answer t)) (Keeps.refl s)

/-- A descriptor item written in its range leaves the descriptor formed. -/
theorem writeDescriptor_formed {f : WindowField} {v : Word} {d d' : Descriptor} (h : writeDescriptor f v d = some d')
    (hd : DescriptorFormed d) : DescriptorFormed d' := by
  obtain ⟨hbase, hone, hmax⟩ := hd
  unfold writeDescriptor at h
  cases f with
  | base =>
    simp only [Option.ite_none_right_eq_some, Option.some.injEq] at h
    obtain ⟨haligned, rfl⟩ := h
    exact ⟨haligned, hone, hmax⟩
  | pages =>
    simp only [Option.ite_none_right_eq_some, Option.some.injEq] at h
    obtain ⟨⟨hlow, hhigh⟩, rfl⟩ := h
    exact ⟨hbase, hlow, hhigh⟩
  | policyView =>
    simp only [Option.ite_none_right_eq_some, Option.map_eq_some_iff] at h
    obtain ⟨-, p, -, rfl⟩ := h
    exact ⟨hbase, hone, hmax⟩
  | enable =>
    simp only [Option.ite_none_right_eq_some, Option.some.injEq] at h
    obtain ⟨-, rfl⟩ := h
    exact ⟨hbase, hone, hmax⟩

theorem descriptorOf_formed {table : List Descriptor} (h : ∀ d ∈ table, DescriptorFormed d) (w : Window) :
    DescriptorFormed (descriptorOf table w) := by
  rw [descriptorOf, List.getD_eq_getElem?_getD]
  cases hw : table[w.val]? with
  | none => exact descriptorFormed_reset
  | some d => exact h d (List.mem_of_getElem? hw)

theorem keeps_writeShadowWindow (w : Window) (f : WindowField) (v : Word) (s : State) :
    Keeps s (writeShadowWindow w f v s).1 := by
  unfold writeShadowWindow
  split
  · exact Keeps.refl s
  · split
    · exact Keeps.refl s
    · next d hd =>
      refine keeps_setWindows _ fun law => ⟨law.activeLength, ?_, law.activeFormed, fun x hx => ?_, law.noneFails⟩
      · simpa using law.shadowLength
      · obtain hx | rfl := List.mem_or_eq_of_mem_set hx
        · exact law.shadowFormed x hx
        · exact writeDescriptor_formed hd (descriptorOf_formed law.shadowFormed w)

/-- A timing item written in its range leaves each item in its range. -/
theorem writeTiming_law {q : TimingField} {v : Nat} {t t' : Timing} (h : writeTiming q v t = some t')
    (law : ShadowSetLaw t) : ShadowSetLaw t' := by
  obtain ⟨hperiod, hseal, hdeadline⟩ := law
  unfold writeTiming at h
  cases q with
  | period =>
    simp only [Option.ite_none_right_eq_some, Option.some.injEq] at h
    obtain ⟨hrange, rfl⟩ := h
    exact ⟨hrange, hseal, hdeadline⟩
  | sealPhase =>
    simp only [Option.ite_none_right_eq_some, Option.some.injEq] at h
    obtain ⟨hrange, rfl⟩ := h
    exact ⟨hperiod, hrange, hdeadline⟩
  | deadline =>
    simp only [Option.ite_none_right_eq_some, Option.some.injEq] at h
    obtain ⟨hrange, rfl⟩ := h
    exact ⟨hperiod, hseal, hrange⟩

theorem keeps_writeShadowTiming (q : TimingField) (v : Word) (s : State) : Keeps s (writeShadowTiming q v s).1 := by
  unfold writeShadowTiming
  split
  · exact Keeps.refl s
  · next t ht =>
    exact keeps_setTimer _ fun law =>
      ⟨law.stallLimit, law.dsTimeout, law.retryLimit, law.drainShare, law.shareCounter, law.holdLimit, law.holdCount,
        law.activeSet, writeTiming_law ht law.shadowSet, law.parameters⟩

/-- A tracker parameter written in its range leaves the parameters in range, and the rest of the tracker as it was. -/
theorem writeParam_law {p : TrackerParam} {v : Nat} {t t' : Tracker} (h : writeParam p v t = some t')
    (law : ParameterLaw t) : ParameterLaw t' := by
  obtain ⟨⟨hle, hone, hmax⟩, hacq, hlock, hlimit⟩ := law
  unfold writeParam at h
  cases p with
  | tolNarrow =>
    simp only [Option.ite_none_right_eq_some, Option.some.injEq] at h
    obtain ⟨⟨-, hbelow⟩, rfl⟩ := h
    exact ⟨⟨hbelow, hone, hmax⟩, hacq, hlock, hlimit⟩
  | tolWide =>
    simp only [Option.ite_none_right_eq_some, Option.some.injEq] at h
    obtain ⟨⟨hlow, hhigh, habove⟩, rfl⟩ := h
    exact ⟨⟨habove, hlow, hhigh⟩, hacq, hlock, hlimit⟩
  | nAcq =>
    simp only [Option.ite_none_right_eq_some, Option.some.injEq] at h
    obtain ⟨hrange, rfl⟩ := h
    exact ⟨⟨hle, hone, hmax⟩, hrange, hlock, hlimit⟩
  | nLock =>
    simp only [Option.ite_none_right_eq_some, Option.some.injEq] at h
    obtain ⟨hrange, rfl⟩ := h
    exact ⟨⟨hle, hone, hmax⟩, hacq, hrange, hlimit⟩
  | holdoverLimit =>
    simp only [Option.ite_none_right_eq_some, Option.some.injEq] at h
    obtain ⟨hrange, rfl⟩ := h
    exact ⟨⟨hle, hone, hmax⟩, hacq, hlock, hrange⟩

theorem keeps_writeTrackerParam (p : TrackerParam) (v : Word) (s : State) : Keeps s (writeTrackerParam p v s).1 := by
  unfold writeTrackerParam
  split
  · exact Keeps.refl s
  · split
    · exact Keeps.refl s
    · next t ht => exact keeps_setTracker t (writeParam_law ht)

theorem keeps_enableTracker (s : State) : Keeps s (enableTracker s).1 := by
  unfold enableTracker
  split
  · exact Keeps.refl s
  · split
    · exact keeps_changeTracker_of_parameters _ rfl
    · exact Keeps.refl s

theorem keeps_boundaryIfPast (s : State) : Keeps s (boundaryIfPast s) := by
  unfold boundaryIfPast
  split
  · exact keeps_takeBoundary s
  · exact Keeps.refl s

theorem keeps_disableTracker (s : State) : Keeps s (disableTracker s).1 := by
  unfold disableTracker
  split
  · refine Keeps.trans ?_ (keeps_boundaryIfPast _)
    exact keeps_changeTracker_of_parameters _ rfl
  · exact Keeps.refl s

theorem keeps_writeTrackEn (v : Word) (s : State) : Keeps s (writeTrackEn v s).1 := by
  unfold writeTrackEn
  split
  · exact keeps_enableTracker s
  · split
    · exact keeps_disableTracker s
    · exact Keeps.refl s

theorem keeps_writeGate (v : Word) (s : State) : Keeps s (writeGate v s).1 := by
  unfold writeGate
  split
  · exact Keeps.refl s
  · exact keeps_changeTracker_of_parameters _ rfl

theorem keeps_writeEnableSet (v : Word) (s : State) : Keeps s (writeEnableSet v s).1 := by
  unfold writeEnableSet
  split
  · exact keeps_replaceEnableSet _ s
  · exact Keeps.refl s

theorem keeps_writeHoldLimit (v : Nat) (s : State) : Keeps s (writeHoldLimit v s).1 := by
  unfold writeHoldLimit
  split
  · next hrange =>
    exact keeps_setSealing _ fun law =>
      ⟨law.stallLimit, law.dsTimeout, law.retryLimit, law.drainShare, law.shareCounter, hrange, law.holdCount,
        law.activeSet, law.shadowSet, law.parameters⟩
  · exact Keeps.refl s

theorem keeps_writeLateSeal (v : Nat) (s : State) : Keeps s (writeLateSeal v s).1 := by
  unfold writeLateSeal
  split
  · exact keeps_setSealing _ fun law => law.of_parts (holdCount := id)
  · exact keeps_setSealing _ fun law => law.of_parts (holdCount := id)
  · exact Keeps.refl s

theorem keeps_writeStallLimit (v : Nat) (s : State) : Keeps s (writeStallLimit v s).1 := by
  unfold writeStallLimit
  split
  · next hrange =>
    exact
      { settings := fun law =>
          ⟨hrange, law.dsTimeout, law.retryLimit, law.drainShare, law.shareCounter, law.holdLimit, law.holdCount,
            law.activeSet, law.shadowSet, law.parameters⟩
        uport := fun law => law.update (List.Sublist.refl _) rfl rfl (fun _ horder hstall => ⟨horder, hstall⟩)
          fun _ hf => .inl hf }
  · exact Keeps.refl s

/-- A write of a D-port setting reaches the settings only. -/
theorem keeps_setDport_of_settings {s : State} {x : DPort} (inFlight : x.inFlight = s.dport.inFlight)
    (stale : x.stale = s.dport.stale) (law : SettingsLaw s → SettingsLaw (s.setDport x)) : Keeps s (s.setDport x) where
  tags h := h.of_eq inFlight stale
  settings := law
  drain _ _ _ h := h.of_eq rfl rfl inFlight

theorem keeps_writeDsTimeout (v : Nat) (s : State) : Keeps s (writeDsTimeout v s).1 := by
  unfold writeDsTimeout
  split
  · next hrange =>
    exact keeps_setDport_of_settings rfl rfl fun law =>
      ⟨law.stallLimit, hrange, law.retryLimit, law.drainShare, law.shareCounter, law.holdLimit, law.holdCount,
        law.activeSet, law.shadowSet, law.parameters⟩
  · exact Keeps.refl s

theorem keeps_writeRetryLimit (v : Nat) (s : State) : Keeps s (writeRetryLimit v s).1 := by
  unfold writeRetryLimit
  split
  · next hrange =>
    exact keeps_setDport_of_settings rfl rfl fun law =>
      ⟨law.stallLimit, law.dsTimeout, hrange, law.drainShare, law.shareCounter, law.holdLimit, law.holdCount,
        law.activeSet, law.shadowSet, law.parameters⟩
  · exact Keeps.refl s

theorem keeps_writeDrainShare (v : Nat) (s : State) : Keeps s (writeDrainShare v s).1 := by
  unfold writeDrainShare
  split
  · next hrange =>
    exact keeps_setDport_of_settings rfl rfl fun law =>
      ⟨law.stallLimit, law.dsTimeout, law.retryLimit, hrange, law.shareCounter, law.holdLimit, law.holdCount,
        law.activeSet, law.shadowSet, law.parameters⟩
  · exact Keeps.refl s

theorem keeps_writeExisting (it : Item) (v : Word) (s : State) : Keeps s (writeExisting it v s).1 := by
  cases it with
  | shadowWindow w f => exact keeps_writeShadowWindow w f v s
  | shadowTiming q => exact keeps_writeShadowTiming q v s
  | trackEn => exact keeps_writeTrackEn v s
  | trackerParam p => exact keeps_writeTrackerParam p v s
  | gate => exact keeps_writeGate v s
  | holdLimit => exact keeps_writeHoldLimit _ s
  | lateSeal => exact keeps_writeLateSeal _ s
  | stallLimit => exact keeps_writeStallLimit _ s
  | dsTimeout => exact keeps_writeDsTimeout _ s
  | retryLimit => exact keeps_writeRetryLimit _ s
  | drainShare => exact keeps_writeDrainShare _ s
  | enableSet => exact keeps_writeEnableSet v s
  | _ => exact Keeps.refl s

theorem keeps_writeItem (item : Half) (v : Word) (s : State) : Keeps s (writeItem item v s).1 := by
  unfold writeItem
  split
  · exact Keeps.refl s
  · exact keeps_writeExisting _ v s

/-! ### The other management commands (chapters 2, 7, 9, 10) -/

theorem keeps_ackAttention (mask : Word) (s : State) : Keeps s (ackAttention mask s).1 := by
  unfold ackAttention
  split
  · exact keeps_acknowledgeCauses _ s
  · exact Keeps.refl s

theorem keeps_holdSeals (s : State) : Keeps s (holdSeals s).1 := by
  unfold holdSeals
  split
  · exact Keeps.refl s
  · exact keeps_setSealing _ fun law => law.of_parts (holdCount := by simp)

theorem keeps_releaseSeals (s : State) : Keeps s (releaseSeals s).1 := by
  unfold releaseSeals
  split
  · refine Keeps.trans ?_ (keeps_permissionReturn _)
    exact keeps_setSealing _ fun law => law.of_parts (holdCount := by simp)
  · split
    · exact keeps_setSealing _ fun law => law.of_parts (holdCount := id)
    · exact Keeps.refl s

theorem keeps_commitNow (s : State) : Keeps s (commitNow s).1 := by
  unfold commitNow
  split
  · exact Keeps.refl s
  · split
    · exact Keeps.refl s
    · refine Keeps.trans ?_ (keeps_returnCommitNow _)
      exact keeps_setSealing_of_flags rfl

theorem keeps_abortOpen (s : State) : Keeps s (abortOpen s).1 := by
  unfold abortOpen
  split
  · exact Keeps.refl s
  · exact (((keeps_discardOpen _ s).trans (keeps_raiseCause _ _)).trans (keeps_clearOwed _)).trans
      (keeps_reportFreedSlots _)

theorem keeps_armApply (s : State) : Keeps s (armApply s).1 := by
  unfold armApply
  split
  · exact Keeps.refl s
  · exact keeps_setWindows _ fun law => law.of_eq rfl rfl

theorem keeps_cancelApply (s : State) : Keeps s (cancelApply s).1 := by
  unfold cancelApply
  split
  · exact Keeps.refl s
  · exact keeps_setWindows _ fun law => law.of_eq rfl rfl

theorem keeps_clearFault (index : Byte) (s : State) : Keeps s (clearFault index s).1 := by
  unfold clearFault
  split
  · exact keeps_setWindows _ fun law => law.of_eq rfl rfl
  · exact Keeps.refl s

/-! ### Upstream and framing commands -/

theorem keeps_execRequestArrival (r : Request) (s : State) : NextHas (Keeps s) (execRequestArrival r s) := by
  obtain ⟨haccepts, q, n, hwf, heq⟩ | ⟨-, heq⟩ := execRequestArrival_cases r s
  · rw [heq]
    exact (keeps_appendRequest hwf haccepts).trans (keeps_setDrawn _ n)
  · rw [heq]
    exact Keeps.refl s

theorem keeps_execTaking (s : State) : NextHas (Keeps s) (execTaking s) := by
  unfold execTaking
  split
  · exact Keeps.refl s
  · next e head =>
    split
    · split
      · exact keeps_holdHead s
      · exact keeps_attemptTaking head
    · exact Keeps.refl s

theorem keeps_execResponseDeparture (s : State) : NextHas (Keeps s) (execResponseDeparture s) := by
  unfold execResponseDeparture
  split
  · exact Keeps.refl s
  · exact keeps_depart s _

theorem keeps_execStallTimerExpiry (s : State) : NextHas (Keeps s) (execStallTimerExpiry s) := by
  unfold execStallTimerExpiry
  split
  · split
    · exact Keeps.refl s
    · exact (keeps_expireStalled _ s).trans (keeps_raiseCause _ _)
  · exact Keeps.refl s

theorem keeps_execStaleTagRelease (tag : Tag) (s : State) : NextHas (Keeps s) (execStaleTagRelease tag s) := by
  unfold execStaleTagRelease
  split
  · exact keeps_removeStale tag s
  · exact Keeps.refl s

theorem keeps_execFrameStart (s : State) : NextHas (Keeps s) (execFrameStart s) := by
  unfold execFrameStart
  split
  · exact keeps_setManagement s _
  · exact Keeps.refl s

theorem keeps_execFrameEnd (bits : List Bool) (s : State) : NextHas (Keeps s) (execFrameEnd bits s) := by
  unfold execFrameEnd
  split
  · exact keeps_setManagement s _
  · exact Keeps.refl s

theorem keeps_execNakCode (code : Byte) (s : State) : NextHas (Keeps s) (execNakCode code s) := by
  unfold execNakCode
  split
  · exact keeps_setManagement s _
  · exact Keeps.refl s

theorem keeps_execCommandParameterByte (b : Byte) (s : State) : NextHas (Keeps s) (execCommandParameterByte b s) := by
  unfold execCommandParameterByte
  split
  · exact Keeps.refl s
  · exact keeps_setManagement s _

theorem keeps_execCommandCrcMismatch (crc : Byte) (s : State) :
    NextHas (Keeps s) (execCommandCrcMismatch crc s) := by
  unfold execCommandCrcMismatch
  split
  · exact keeps_setManagement s _
  · exact Keeps.refl s

/-! ### Every command and every step -/

theorem keeps_exec (i : Instr) (s : State) : NextHas (Keeps s) (exec i s) := by
  cases i with
  | requestArrival r => exact keeps_execRequestArrival r s
  | taking => exact keeps_execTaking s
  | responseDeparture => exact keeps_execResponseDeparture s
  | stallTimerExpiry => exact keeps_execStallTimerExpiry s
  | grant => exact keeps_arbitrate s
  | downstreamResponse tag a => exact keeps_execDownstreamResponse tag a s
  | downstreamTimeoutExpiry tag => exact keeps_execDownstreamTimeoutExpiry tag s
  | staleTagRelease tag => exact keeps_execStaleTagRelease tag s
  | deadlineDue => exact keeps_execDeadlineDue s
  | sealPoint => exact keeps_execSealPoint s
  | frameBoundary => exact keeps_execFrameBoundary s
  | syncEdge => exact keeps_execSyncEdge s
  | missingSyncPoint => exact keeps_execMissingSyncPoint s
  | srstnAssertion => exact keeps_execSrstnAssertion s
  | srstnDeassertion => exact keeps_execSrstnDeassertion s
  | powerOnReset srstn mcsn => exact keeps_execPowerOnReset srstn mcsn s
  | frameStart => exact keeps_execFrameStart s
  | frameEnd bits => exact keeps_execFrameEnd bits s
  | nakCode code => exact keeps_execNakCode code s
  | nop => exact keeps_runReading fun _ => none
  | readItem item count => exact keeps_runReading fun t => some (readItemReply item count t)
  | writeItem item v => exact keeps_runWrite (keeps_writeItem item v s)
  | shadowWindowWrite w f v => exact keeps_runWrite (keeps_writeShadowWindow w f v s)
  | shadowTimingWrite q v => exact keeps_runWrite (keeps_writeShadowTiming q v s)
  | trackerParameterWrite p v => exact keeps_runWrite (keeps_writeTrackerParam p v s)
  | trackEnEnable => exact keeps_runWrite (keeps_enableTracker s)
  | trackEnDisable => exact keeps_runWrite (keeps_disableTracker s)
  | gateWrite v => exact keeps_runWrite (keeps_writeGate v s)
  | enableSetWrite v => exact keeps_runWrite (keeps_writeEnableSet v s)
  | readRecord => exact keeps_runCommand (keeps_readRecord s)
  | ackAttn mask => exact keeps_runCommand (keeps_ackAttention mask s)
  | hold => exact keeps_runCommand (keeps_holdSeals s)
  | release => exact keeps_runCommand (keeps_releaseSeals s)
  | commitNow => exact keeps_runCommand (keeps_commitNow s)
  | abortOpen => exact keeps_runCommand (keeps_abortOpen s)
  | applyTable => exact keeps_runCommand (keeps_armApply s)
  | cancelApply => exact keeps_runCommand (keeps_cancelApply s)
  | clearFault index => exact keeps_runCommand (keeps_clearFault index s)
  | queryWord a => exact keeps_runReading fun t => some (queryReply t.store a)
  | commandParameterByte b => exact keeps_execCommandParameterByte b s
  | commandCrcMismatch crc => exact keeps_execCommandCrcMismatch crc s

/-- Settles O4: every command leaves the queue as it was. -/
theorem commandsLeaveTheQueue : Obligations.CommandsLeaveTheQueue :=
  fun i s t h => ((nextHas_iff _ _).mp (keeps_exec i s) t h).queue

theorem settingsLaw_tick {s : State} (law : SettingsLaw s) : SettingsLaw (tick s) :=
  law.of_parts rfl rfl rfl rfl id rfl id id rfl id

/-- A law that keeps its truth under Keeps, under a change of the queue and under a tick is kept by every step. -/
theorem law_kept {Law : State → Prop} (command : ∀ {s t}, Keeps s t → Law s → Law t)
    (queue : ∀ s q, Law s → Law (s.setPending q)) (ticks : ∀ s, Law s → Law (tick s)) {s t : State} (h : Law s)
    (hstep : step s = .next t) : Law t :=
  (nextHas_iff _ _).mp
    (step_has Law queue (fun i s l => (keeps_exec i s).imp fun _ k => command k l) (fun s l _ => ticks s l) s h) t hstep

/-- Settles O9: every change of the two sets ends with a re-evaluation. -/
theorem attentionLawIsKept : Obligations.AttentionLawIsKept := fun _ _ =>
  law_kept (fun k => k.attention) (fun _ _ => id) fun _ => id

/-- Settles O10: a record joins at the tail, unread, and the first unread one is marked. -/
theorem ringLawIsKept : Obligations.RingLawIsKept := fun _ _ =>
  law_kept (fun k => k.ring) (fun _ _ => id) fun _ => id

/-- Settles O11: a tag is taken when it is free, and becomes stale when its member has left. -/
theorem tagLawIsKept : Obligations.TagLawIsKept := fun _ _ =>
  law_kept (fun k => k.tags) (fun _ _ => id) fun _ => id

/-- Settles O12: items are written in their range, and a table becomes active when no window of it fails. -/
theorem windowLawIsKept : Obligations.WindowLawIsKept := fun _ _ =>
  law_kept (fun k => k.windows) (fun _ _ law => law.of_eq rfl rfl) fun _ law => law.of_eq rfl rfl

/-- Settles O13: settings are written in their range, and a shadow set becomes active when it is valid. -/
theorem settingsLawIsKept : Obligations.SettingsLawIsKept := fun _ _ =>
  law_kept (fun k => k.settings) (fun _ _ law => law.of_parts) fun _ => settingsLaw_tick

/-- Settles O14: only a port with a taking head stages, stalls or forwards, and the port closes with everything empty. -/
theorem uportLawIsKept : Obligations.UPortLawIsKept := fun _ _ =>
  law_kept (fun k => k.uport) (fun _ _ law => law.of_eq rfl rfl id) fun _ law => law.of_eq rfl rfl id

/-- Settles O15, together with the U-port's law, which gives the form of the request that is staged. -/
theorem storeLawIsKept : Obligations.StoreLawIsKept := fun _ _ uport store hstep =>
  (law_kept (Law := fun s => UPortLaw s ∧ StoreLaw s) (fun k ⟨u, l⟩ => ⟨k.uport u, k.store u l⟩)
    (fun _ _ ⟨u, l⟩ => ⟨u.of_eq rfl rfl id, l.of_eq rfl⟩) (fun _ ⟨u, l⟩ => ⟨u.of_eq rfl rfl id, l.of_eq rfl⟩)
    ⟨uport, store⟩ hstep).2

/-- The Drain Engine's law with those that it needs. -/
def DrainLaws (s : State) : Prop :=
  TagLaw s ∧ UPortLaw s ∧ StoreLaw s ∧ DrainLaw s

/-- Settles O16: the four laws together are kept. -/
theorem drainLawIsKept : Obligations.DrainLawIsKept := fun _ _ tags uport store drain hstep => by
  have hsame : ∀ {s t : State}, t.uport = s.uport → t.srstn = s.srstn → t.store = s.store → t.drain = s.drain →
      t.dport = s.dport → DrainLaws s → DrainLaws t := by
    rintro s t huport hsrstn hstore hdrain hdport ⟨g, u, l, d⟩
    exact ⟨g.of_eq (by rw [hdport]) (by rw [hdport]), u.of_eq huport hsrstn (by rw [hstore]; exact id), l.of_eq hstore,
      d.of_eq (by rw [hstore]) hdrain (by rw [hdport])⟩
  have hkept : DrainLaws _ := law_kept (Law := DrainLaws)
    (fun k ⟨g, u, l, d⟩ => ⟨k.tags g, k.uport u, k.store u l, k.drain g u l d⟩)
    (fun _ _ => hsame rfl rfl rfl rfl rfl) (fun _ => hsame rfl rfl rfl rfl rfl) ⟨tags, uport, store, drain⟩ hstep
  exact hkept.2.2.2

end Sys2Proof.Machine

/-! SUPPORT. The clock of the machine: what the commands leave of the instant, the phase, the active timing set and the
tracker, what a boundary does to them, and the timing law's two halves. -/

namespace Sys2Proof.Machine

/-! ### The clock and what leaves it alone -/

/-- The instant, the phase, the active set and the tracker are as they were. -/
structure SameClock (s t : State) : Prop where
  now : t.now = s.now := by simp
  phase : t.timer.phase = s.timer.phase := by simp
  active : t.timer.active = s.timer.active := by simp
  tracker : t.tracker = s.tracker := by simp

theorem SameClock.refl (s : State) : SameClock s s := {}

theorem SameClock.trans {s t u : State} (first : SameClock s t) (second : SameClock t u) : SameClock s u :=
  ⟨second.now.trans first.now, second.phase.trans first.phase, second.active.trans first.active,
    second.tracker.trans first.tracker⟩

/-- The half of the timing law that is about the sets and the parameters (R97, R104, R107). -/
structure SetLaw (s : State) : Prop where
  activeSet : ActiveSetLaw s.timer.active
  parameters : ParameterLaw s.tracker
  enabled : s.tracker.trackEn = true → 2 * s.tracker.tolWide < s.timer.active.period

theorem timingLaw_iff (s : State) : TimingLaw s ↔ SetLaw s ∧ TrackerStateLaw s :=
  ⟨fun law => ⟨⟨law.activeSet, law.parameters, law.enabled⟩, law.states⟩,
    fun ⟨sets, states⟩ => ⟨sets.activeSet, sets.parameters, sets.enabled, states⟩⟩

theorem TimingLaw.sets {s : State} (law : TimingLaw s) : SetLaw s := ((timingLaw_iff s).mp law).1

theorem SetLaw.of_eq {s t : State} (law : SetLaw s) (active : t.timer.active = s.timer.active)
    (parameters : parametersOf t.tracker = parametersOf s.tracker)
    (enabled : t.tracker.trackEn = true → s.tracker.trackEn = true) : SetLaw t := by
  have hwide : t.tracker.tolWide = s.tracker.tolWide := by
    simp only [parametersOf, Prod.mk.injEq] at parameters
    exact parameters.2.1
  exact ⟨active ▸ law.activeSet, law.parameters.of_parameters parameters,
    fun h => by rw [hwide, active]; exact law.enabled (enabled h)⟩

/-! ### The law of each tracker state -/

theorem trackerStateLaw_free {s : State} (h : s.tracker.state = .free) : TrackerStateLaw s ↔
    s.tracker.trackEn = false ∧ s.tracker.reference = none ∧ s.timer.phase ≤ s.timer.active.period := by
  simp only [TrackerStateLaw, h]

theorem trackerStateLaw_acquire {s : State} (h : s.tracker.state = .acquire) : TrackerStateLaw s ↔
    s.tracker.trackEn = true ∧ (∀ r, s.tracker.reference = some r → r ≤ s.now) ∧
      s.tracker.goodCount < s.tracker.nAcq ∧ s.timer.phase ≤ s.timer.active.period := by
  simp only [TrackerStateLaw, h]

theorem trackerStateLaw_track {s : State} (h : s.tracker.state = .track) : TrackerStateLaw s ↔
    s.tracker.trackEn = true ∧ DrivenLaw s ∧ s.tracker.lockCount < s.tracker.nLock := by
  simp only [TrackerStateLaw, h]

theorem trackerStateLaw_locked {s : State} (h : s.tracker.state = .locked) : TrackerStateLaw s ↔
    s.tracker.trackEn = true ∧ DrivenLaw s ∧ s.tracker.lockCount = s.tracker.nLock := by
  simp only [TrackerStateLaw, h]

theorem trackerStateLaw_holdover {s : State} (h : s.tracker.state = .holdover) : TrackerStateLaw s ↔
    s.tracker.trackEn = true ∧ (∃ r, s.tracker.reference = some r ∧ r ≤ s.now) ∧
      s.tracker.holdoverCount < s.tracker.holdoverLimit ∧ s.timer.phase ≤ s.tracker.plast ∧
      s.tracker.tolWide < s.tracker.plast ∧ s.tracker.plast ≤ 16842750 := by
  simp only [TrackerStateLaw, h]

/-- In TRACK and LOCKED the tracker is enabled and drives the phase. -/
theorem driven_of_trackerStateLaw {s : State} (law : TrackerStateLaw s)
    (h : s.tracker.state = .track ∨ s.tracker.state = .locked) : s.tracker.trackEn = true ∧ DrivenLaw s := by
  rcases h with h | h
  · obtain ⟨hen, hdriven, -⟩ := (trackerStateLaw_track h).mp law
    exact ⟨hen, hdriven⟩
  · obtain ⟨hen, hdriven, -⟩ := (trackerStateLaw_locked h).mp law
    exact ⟨hen, hdriven⟩

/-- The tracker is enabled in every state but FREE. -/
theorem free_of_disabled {s : State} (law : TrackerStateLaw s) (h : s.tracker.trackEn = false) :
    s.tracker.state = .free := by
  cases hstate : s.tracker.state with
  | free => rfl
  | acquire => exact absurd ((trackerStateLaw_acquire hstate).mp law).1 (by simp [h])
  | track => exact absurd ((trackerStateLaw_track hstate).mp law).1 (by simp [h])
  | locked => exact absurd ((trackerStateLaw_locked hstate).mp law).1 (by simp [h])
  | holdover => exact absurd ((trackerStateLaw_holdover hstate).mp law).1 (by simp [h])

/-- An edge that begins a frame drives the phase. -/
theorem drivenLaw_of_edge {s : State} (reference : s.tracker.reference = some s.now) (phase : s.timer.phase = 0)
    (low : s.tracker.tolWide < s.tracker.plast) (high : s.tracker.plast ≤ 16842750) : DrivenLaw s :=
  ⟨s.now, reference, by omega, by omega, low, high⟩

theorem SameClock.timingLaw {s t : State} (same : SameClock s t) (law : TimingLaw s) : TimingLaw t := by
  obtain ⟨sets, states⟩ := (timingLaw_iff s).mp law
  obtain ⟨hnow, hphase, hactive, htracker⟩ := same
  refine (timingLaw_iff t).mpr ⟨sets.of_eq hactive (by rw [htracker]) (by rw [htracker]; exact id), ?_⟩
  unfold TrackerStateLaw DrivenLaw at *
  rw [hnow, hphase, hactive, htracker]
  exact states

/-! ### Boundaries, realignments and tracker changes (R87, R90, R97, R108) -/

@[simp] theorem changeTracker_tracker (t : Tracker) (cs : List Cause) (s : State) :
    (changeTracker t cs s).tracker = t := by
  unfold changeTracker
  dsimp only
  split <;> simp

@[simp] theorem newFrame_phase (s : State) : (newFrame s).timer.phase = 0 := rfl
@[simp] theorem newFrame_active (s : State) : (newFrame s).timer.active = s.timer.active := rfl
@[simp] theorem newFrame_shadow (s : State) : (newFrame s).timer.shadow = s.timer.shadow := rfl

@[simp] theorem transferCheck_phase (s : State) : (transferCheck s).timer.phase = s.timer.phase := by
  unfold transferCheck
  (repeat' split) <;> simp

/-- The transfer check leaves the active set or makes it a valid shadow set (R96, R97). -/
theorem transferCheck_active (s : State) : (transferCheck s).timer.active = s.timer.active ∨
    timingValid (transferCheck s).timer.active s.tracker.trackEn s.tracker.tolWide = true := by
  unfold transferCheck
  split
  · exact .inl rfl
  · split
    · next hvalid => exact .inr hvalid
    · split
      · exact .inl rfl
      · exact .inl (by simp)

@[simp] theorem earlySealPoint_phase (s : State) : (earlySealPoint s).timer.phase = s.timer.phase := by
  unfold earlySealPoint
  split <;> simp

@[simp] theorem earlySealPoint_active (s : State) : (earlySealPoint s).timer.active = s.timer.active := by
  unfold earlySealPoint
  split <;> simp

@[simp] theorem takeBoundary_phase (s : State) : (takeBoundary s).timer.phase = 0 := by
  simp [takeBoundary]

theorem takeBoundary_active (s : State) : (takeBoundary s).timer.active = s.timer.active ∨
    timingValid (takeBoundary s).timer.active s.tracker.trackEn s.tracker.tolWide = true := by
  simpa [takeBoundary] using transferCheck_active (newFrame (lateSealPoint s))

theorem SetLaw.takeBoundary {s : State} (law : SetLaw s) : SetLaw (takeBoundary s) := by
  rcases takeBoundary_active s with hactive | hvalid
  · exact law.of_eq hactive (by simp) (by simp)
  · obtain ⟨hset, henabled⟩ := activeSetLaw_of_timingValid hvalid
    exact ⟨hset, by simpa using law.parameters, by simpa using henabled⟩

@[simp] theorem realign_phase (s : State) : (realign s).timer.phase = 0 := by
  simp only [realign]
  split <;> simp

@[simp] theorem realign_active (s : State) : (realign s).timer.active = s.timer.active := by
  simp only [realign]
  split <;> simp

/-- A change of the tracker's state that keeps its parameters and does not enable it keeps the sets' law. -/
theorem SetLaw.changeTracker {s : State} (law : SetLaw s) {t : Tracker} (cs : List Cause)
    (parameters : parametersOf t = parametersOf s.tracker) (enabled : t.trackEn = true → s.tracker.trackEn = true) :
    SetLaw (changeTracker t cs s) :=
  law.of_eq (by simp) (by simpa using parameters) (by simpa using enabled)

theorem SetLaw.setTracker {s : State} (law : SetLaw s) {t : Tracker} (parameters : parametersOf t = parametersOf s.tracker)
    (enabled : t.trackEn = true → s.tracker.trackEn = true) : SetLaw (s.setTracker t) :=
  law.of_eq rfl parameters enabled

theorem difference_le_iff (a b n : Nat) : difference a b ≤ n ↔ a ≤ b + n ∧ b ≤ a + n := by
  unfold difference
  split <;> omega

/-- An interval is NARROW or WIDE exactly within TOL_WIDE of PERIOD (R107). -/
theorem goodClass_classOf_iff {i period narrow wide : Nat} (order : narrow ≤ wide) :
    goodClass (classOf i period narrow wide) = true ↔ i ≤ period + wide ∧ period ≤ i + wide := by
  unfold classOf
  simp only [difference_le_iff]
  split
  · simp only [goodClass, beq_self_eq_true, Bool.true_or, true_iff]
    omega
  · split
    · simp only [goodClass, beq_self_eq_true, Bool.or_true, true_iff]
      omega
    · next hwide =>
      simp only [hwide, iff_false]
      split <;> decide

end Sys2Proof.Machine

/-! SUPPORT. Every event of the Frame Timer and the Sync Tracker keeps the timing law, and no edge faults under it. -/

namespace Sys2Proof.Machine

/-! ### Boundaries that the timer makes (R88, R111, R115) -/

theorem TimingLaw.missingInAcquire {s : State} (law : TimingLaw s) (h : s.tracker.state = .acquire) :
    TimingLaw (missingInAcquire s) := by
  obtain ⟨hen, -, hgood, hphase⟩ := (trackerStateLaw_acquire h).mp law.states
  refine (timingLaw_iff _).mpr ⟨law.sets.setTracker rfl id,
    (trackerStateLaw_acquire (s := Machine.missingInAcquire s) h).mpr ⟨hen, ?_, ?_, hphase⟩⟩
  · intro r hr
    cases hr
  · show 0 < s.tracker.nAcq
    omega

theorem TimingLaw.dropPassedReference {s : State} (law : TimingLaw s) (h : s.tracker.state = .acquire) :
    TimingLaw (dropPassedReference s) := by
  rcases dropPassedReference_cases s with heq | heq
  · rwa [heq]
  · rw [heq]
    exact law.missingInAcquire h

/-- In FREE and ACQUIRE a boundary keeps the law: the phase starts again. -/
theorem TimingLaw.takeBoundary {s : State} (law : TimingLaw s)
    (h : s.tracker.state = .free ∨ s.tracker.state = .acquire) : TimingLaw (takeBoundary s) := by
  refine (timingLaw_iff _).mpr ⟨law.sets.takeBoundary, ?_⟩
  rcases h with h | h
  · obtain ⟨hen, href, -⟩ := (trackerStateLaw_free h).mp law.states
    exact (trackerStateLaw_free (by simpa using h)).mpr (by simp [hen, href])
  · obtain ⟨hen, href, hgood, -⟩ := (trackerStateLaw_acquire h).mp law.states
    exact (trackerStateLaw_acquire (by simpa using h)).mpr (by simpa [hen, hgood] using href)

theorem ParameterLaw.nLock_pos {t : Tracker} (law : ParameterLaw t) : 0 < t.nLock := law.nLock.1

/-- The sets' law and an ACQUIRE that starts afresh. -/
theorem timingLaw_of_acquire {s : State} (sets : SetLaw s) (h : s.tracker.state = .acquire)
    (enabled : s.tracker.trackEn = true) (good : s.tracker.goodCount = 0)
    (reference : ∀ r, s.tracker.reference = some r → r ≤ s.now) (phase : s.timer.phase ≤ s.timer.active.period) :
    TimingLaw s :=
  (timingLaw_iff _).mpr ⟨sets, (trackerStateLaw_acquire h).mpr
    ⟨enabled, reference, by rw [good]; exact sets.parameters.nAcq.1, phase⟩⟩

theorem TimingLaw.endHoldoverFrame {s : State} (law : TimingLaw s) (h : s.tracker.state = .holdover) :
    TimingLaw (endHoldoverFrame (Machine.takeBoundary s)) := by
  obtain ⟨hen, ⟨r, href, hr⟩, hcount, -, hlow, hhigh⟩ := (trackerStateLaw_holdover h).mp law.states
  have hsets := law.sets.takeBoundary
  unfold Machine.endHoldoverFrame
  split
  · exact timingLaw_of_acquire (hsets.changeTracker _ rfl id) (by simp) (by simpa using hen) (by simp) (by simp) (by simp)
  · next hlast =>
    simp only [takeBoundary_keeps] at hlast
    refine (timingLaw_iff _).mpr ⟨hsets.setTracker rfl id, (trackerStateLaw_holdover (by simpa using h)).mpr ?_⟩
    have hmore : s.tracker.holdoverCount + 1 < s.tracker.holdoverLimit := by omega
    simp [hen, href, hr, hmore, hlow, hhigh]

theorem timingLaw_execFrameBoundary {s : State} (law : TimingLaw s) : NextHas TimingLaw (execFrameBoundary s) := by
  unfold execFrameBoundary
  split
  · next hdue =>
    split
    · next h => exact law.takeBoundary (.inl h)
    · next h => exact (law.takeBoundary (.inr h)).dropPassedReference (by simpa using h)
    · next h => exact absurd hdue (by simp [boundaryDue, h])
    · next h => exact absurd hdue (by simp [boundaryDue, h])
    · next h => exact law.endHoldoverFrame h
  · exact law

/-! ### The missing-sync point (R111, R114) -/

theorem TimingLaw.missingInTrack {s : State} (law : TimingLaw s)
    (h : s.tracker.state = .track ∨ s.tracker.state = .locked) : TimingLaw (missingInTrack s) := by
  obtain ⟨hen, r, href, hphase, -, hlow, hhigh⟩ := driven_of_trackerStateLaw law.states h
  have hsets := law.sets.takeBoundary
  unfold Machine.missingInTrack
  dsimp only
  split
  · next hlimit =>
    simp only [takeBoundary_keeps] at hlimit
    refine (timingLaw_iff _).mpr ⟨hsets.changeTracker _ rfl id, (trackerStateLaw_holdover (by simp)).mpr ?_⟩
    have hr : r ≤ s.now := by omega
    simp [hen, href, hr, hlimit, hlow, hhigh]
  · exact timingLaw_of_acquire (hsets.changeTracker _ rfl id) (by simp) (by simpa using hen) (by simp) (by simp) (by simp)

theorem timingLaw_execMissingSyncPoint {s : State} (law : TimingLaw s) :
    NextHas TimingLaw (execMissingSyncPoint s) := by
  unfold execMissingSyncPoint
  split
  · next hdue =>
    split
    · next h => exact law.missingInAcquire h
    · next h =>
      have hdriven : s.tracker.state = .track ∨ s.tracker.state = .locked := by
        cases hstate : s.tracker.state with
        | free => simp [missingSyncDue, hstate] at hdue
        | acquire => exact absurd hstate h
        | track => exact .inl rfl
        | locked => exact .inr rfl
        | holdover => simp [missingSyncDue, hstate] at hdue
      exact law.missingInTrack hdriven
  · exact law

/-! ### Edges (R109 to R116) -/

theorem SetLaw.measureInterval {s : State} (law : SetLaw s) (i : Nat) (c : IntervalClass) :
    SetLaw (measureInterval i c s) :=
  law.setTracker rfl id

@[simp] theorem measureInterval_tracker (i : Nat) (c : IntervalClass) (s : State) : (measureInterval i c s).tracker =
    { s.tracker with
      lastInterval := min i Config.countMax, plast := if goodClass c then i else s.tracker.plast } := rfl

/-- A good interval becomes Plast within its bounds (R107, R117). -/
theorem plast_of_good {s : State} (law : SetLaw s) (enabled : s.tracker.trackEn = true) {i : Nat}
    (h : goodClass (classOf i s.timer.active.period s.tracker.tolNarrow s.tracker.tolWide) = true) :
    s.tracker.tolWide < i ∧ i ≤ 16842750 := by
  obtain ⟨hhigh, hlow⟩ := (goodClass_classOf_iff law.parameters.tolerances.1).mp h
  have hperiod := law.activeSet.period.2
  have hwide := law.parameters.tolerances.2.2
  have htwice := law.enabled enabled
  omega

theorem plast_of_measured {s : State} (law : SetLaw s) (enabled : s.tracker.trackEn = true) {i : Nat} {c : IntervalClass}
    (h : c = classOf i s.timer.active.period s.tracker.tolNarrow s.tracker.tolWide) (good : goodClass c = true) :
    (measureInterval i c s).tracker.tolWide < (measureInterval i c s).tracker.plast ∧
      (measureInterval i c s).tracker.plast ≤ 16842750 := by
  simpa [good] using plast_of_good law enabled (h ▸ good)

theorem TimingLaw.acquireEdge {s : State} (law : TimingLaw s) (h : s.tracker.state = .acquire) (i : Nat) :
    TimingLaw (acquireEdge i s) := by
  obtain ⟨hen, href, hgood, hphase⟩ := (trackerStateLaw_acquire h).mp law.states
  have hsets := law.sets
  unfold Machine.acquireEdge
  dsimp only
  split
  · next hclass =>
    obtain ⟨hlow, hhigh⟩ := plast_of_good hsets hen hclass
    split
    · refine (timingLaw_iff _).mpr
        ⟨(hsets.measureInterval _ _).takeBoundary.changeTracker _ rfl id, (trackerStateLaw_track (by simp)).mpr ?_⟩
      refine ⟨by simpa using hen, drivenLaw_of_edge (by simp) (by simp) ?_ ?_, by simpa using hsets.parameters.nLock_pos⟩
      · simpa [hclass] using hlow
      · simpa [hclass] using hhigh
    · next hlast =>
      simp only [measureInterval_tracker] at hlast
      refine (timingLaw_iff _).mpr
        ⟨(hsets.measureInterval _ _).setTracker rfl id, (trackerStateLaw_acquire (by simpa using h)).mpr ?_⟩
      have hmore : s.tracker.goodCount + 1 < s.tracker.nAcq := by omega
      simp [hen, hmore, hphase]
  · exact timingLaw_of_acquire ((hsets.measureInterval _ _).setTracker rfl id) (by simpa using h) (by simpa using hen)
      (by simp) (by simp) (by simpa using hphase)

/-- An EARLY edge comes before PERIOD has passed, so the phase stays below it. -/
theorem timingLaw_earlyEdge {s : State} (sets : SetLaw s) (enabled : s.tracker.trackEn = true)
    (phase : s.timer.phase ≤ s.timer.active.period) : TimingLaw (earlyEdge s) := by
  unfold earlyEdge
  exact timingLaw_of_acquire (sets.changeTracker _ rfl id) (by simp) (by simpa using enabled) (by simp) (by simp)
    (by simpa using phase)

/-- The law after an edge that begins a frame and leaves the tracker in TRACK or LOCKED. -/
theorem timingLaw_of_edge {s : State} (sets : SetLaw s) (enabled : s.tracker.trackEn = true)
    (driven : DrivenLaw s)
    (counts : (s.tracker.state = .track ∧ s.tracker.lockCount < s.tracker.nLock) ∨
      (s.tracker.state = .locked ∧ s.tracker.lockCount = s.tracker.nLock)) : TimingLaw s := by
  refine (timingLaw_iff _).mpr ⟨sets, ?_⟩
  rcases counts with ⟨h, hcount⟩ | ⟨h, hcount⟩
  · exact (trackerStateLaw_track h).mpr ⟨enabled, driven, hcount⟩
  · exact (trackerStateLaw_locked h).mpr ⟨enabled, driven, hcount⟩

theorem timingLaw_wideEdge {s : State} (sets : SetLaw s) (enabled : s.tracker.trackEn = true)
    (low : s.tracker.tolWide < s.tracker.plast) (high : s.tracker.plast ≤ 16842750) : TimingLaw (wideEdge s) := by
  unfold wideEdge
  exact timingLaw_of_edge (sets.takeBoundary.changeTracker _ rfl id) (by simpa using enabled)
    (drivenLaw_of_edge (by simp) (by simp) (by simpa using low) (by simpa using high))
    (.inl ⟨by simp, by simpa using sets.parameters.nLock_pos⟩)

theorem timingLaw_narrowEdgeInTrack {s : State} (sets : SetLaw s) (enabled : s.tracker.trackEn = true)
    (low : s.tracker.tolWide < s.tracker.plast) (high : s.tracker.plast ≤ 16842750) (h : s.tracker.state = .track)
    (count : s.tracker.lockCount < s.tracker.nLock) : TimingLaw (narrowEdgeInTrack s) := by
  unfold narrowEdgeInTrack
  dsimp only
  split
  · next hlast =>
    exact timingLaw_of_edge (sets.takeBoundary.changeTracker _ rfl id) (by simpa using enabled)
      (drivenLaw_of_edge (by simp) (by simp) (by simpa using low) (by simpa using high))
      (.inr ⟨by simp, by simpa using hlast⟩)
  · next hlast =>
    simp only [takeBoundary_keeps] at hlast
    have hmore : s.tracker.lockCount + 1 < s.tracker.nLock := by omega
    exact timingLaw_of_edge (sets.takeBoundary.setTracker rfl id) (by simpa using enabled)
      (drivenLaw_of_edge (by simp) (by simp) (by simpa using low) (by simpa using high))
      (.inl ⟨by simpa using h, by simpa using hmore⟩)

theorem timingLaw_narrowEdgeInLocked {s : State} (sets : SetLaw s) (enabled : s.tracker.trackEn = true)
    (low : s.tracker.tolWide < s.tracker.plast) (high : s.tracker.plast ≤ 16842750) (h : s.tracker.state = .locked)
    (count : s.tracker.lockCount = s.tracker.nLock) : TimingLaw (narrowEdgeInLocked s) := by
  unfold narrowEdgeInLocked takeReference
  exact timingLaw_of_edge (sets.takeBoundary.setTracker rfl id) (by simpa using enabled)
    (drivenLaw_of_edge (by simp) (by simp) (by simpa using low) (by simpa using high))
    (.inr ⟨by simpa using h, by simpa using count⟩)

/-- Where the tracker drives the phase, the interval of an edge is the phase, and no edge is a LATE-EDGE (R107). -/
theorem interval_of_driven {s : State} {r : Nat} (driven : DrivenLaw s) (reference : s.tracker.reference = some r) :
    s.now - r = s.timer.phase ∧ s.now - r ≤ s.timer.active.period + s.tracker.tolWide := by
  obtain ⟨r', href, hphase, hbound, -⟩ := driven
  obtain rfl : r' = r := by simpa [reference] using href.symm
  omega

theorem classOf_ne_lateEdge {i period narrow wide : Nat} (order : narrow ≤ wide) (h : i ≤ period + wide) :
    classOf i period narrow wide ≠ .lateEdge := by
  intro hlate
  have hbad : ¬(i ≤ period + wide ∧ period ≤ i + wide) := by
    rw [← goodClass_classOf_iff order, hlate]
    decide
  unfold classOf at hlate
  split at hlate
  · cases hlate
  · split at hlate
    · cases hlate
    · split at hlate
      · cases hlate
      · omega

/-- An EARLY interval is shorter than PERIOD. -/
theorem lt_of_classOf_early {i period narrow wide : Nat} (h : classOf i period narrow wide = .early) : i < period := by
  unfold classOf at h
  split at h
  · cases h
  · split at h
    · cases h
    · split at h
      · next hlt => exact hlt
      · cases h

theorem timingLaw_trackEdge {s : State} (law : TimingLaw s)
    (h : s.tracker.state = .track ∨ s.tracker.state = .locked) {r : Nat} (reference : s.tracker.reference = some r) :
    ∃ t, trackEdge (s.now - r) s = .next t ∧ TimingLaw t := by
  obtain ⟨hen, hdriven⟩ := driven_of_trackerStateLaw law.states h
  obtain ⟨hphase, hbound⟩ := interval_of_driven hdriven reference
  have hsets := law.sets
  have hmeasured := fun c => hsets.measureInterval (s.now - r) c
  unfold trackEdge
  dsimp only
  split
  · next hclass =>
    obtain ⟨hlow, hhigh⟩ := plast_of_measured hsets hen rfl (by rw [hclass]; rfl)
    refine ⟨_, rfl, ?_⟩
    split
    · next hlocked =>
      obtain ⟨-, -, hcount⟩ := (trackerStateLaw_locked hlocked).mp law.states
      exact timingLaw_narrowEdgeInLocked (hmeasured _) hen hlow hhigh hlocked hcount
    · next hlocked =>
      have htrack := h.resolve_right hlocked
      obtain ⟨-, -, hcount⟩ := (trackerStateLaw_track htrack).mp law.states
      exact timingLaw_narrowEdgeInTrack (hmeasured _) hen hlow hhigh htrack hcount
  · next hclass =>
    obtain ⟨hlow, hhigh⟩ := plast_of_measured hsets hen rfl (by rw [hclass]; rfl)
    exact ⟨_, rfl, timingLaw_wideEdge (hmeasured _) hen hlow hhigh⟩
  · next hclass =>
    have hearly := lt_of_classOf_early hclass
    exact ⟨_, rfl, timingLaw_earlyEdge (hmeasured _) hen (by simp only [measureInterval_keeps]; omega)⟩
  · next hclass => exact absurd hclass (classOf_ne_lateEdge hsets.parameters.tolerances.1 hbound)

theorem TimingLaw.holdoverEdge {s : State} (law : TimingLaw s) (h : s.tracker.state = .holdover) :
    TimingLaw (holdoverEdge s) := by
  obtain ⟨hen, -, -, -, hlow, hhigh⟩ := (trackerStateLaw_holdover h).mp law.states
  have hsets := law.sets
  unfold Machine.holdoverEdge
  dsimp only
  split
  · exact timingLaw_of_edge (hsets.takeBoundary.changeTracker _ rfl id) (by simpa [afterHoldoverEdge] using hen)
      (drivenLaw_of_edge (by simp [afterHoldoverEdge]) (by simp) (by simpa [afterHoldoverEdge] using hlow)
        (by simpa [afterHoldoverEdge] using hhigh))
      (.inl ⟨by simp [afterHoldoverEdge], by simpa [afterHoldoverEdge] using hsets.parameters.nLock_pos⟩)
  · split
    · have hmoved : SetLaw (realign s) := hsets.of_eq (by simp) (by simp) (by simp)
      exact timingLaw_of_edge (hmoved.changeTracker _ rfl id) (by simpa [afterHoldoverEdge] using hen)
        (drivenLaw_of_edge (by simp [afterHoldoverEdge]) (by simp) (by simpa [afterHoldoverEdge] using hlow)
          (by simpa [afterHoldoverEdge] using hhigh))
        (.inl ⟨by simp [afterHoldoverEdge], by simpa [afterHoldoverEdge] using hsets.parameters.nLock_pos⟩)
    · exact law

/-- Under the timing law every edge is handled, and the law stays. -/
theorem timingLaw_handleEdge {s : State} (law : TimingLaw s) : ∃ t, handleEdge s = .next t ∧ TimingLaw t := by
  unfold handleEdge
  split
  · exact ⟨_, rfl, law⟩
  · next h => exact ⟨_, rfl, law.holdoverEdge h⟩
  · next h _ =>
    obtain ⟨hen, -, hgood, hphase⟩ := (trackerStateLaw_acquire h).mp law.states
    refine ⟨_, rfl, (timingLaw_iff _).mpr ⟨law.sets.setTracker rfl id, ?_⟩⟩
    exact (trackerStateLaw_acquire (by simpa [takeReference] using h)).mpr
      ⟨hen, by simp [takeReference], hgood, hphase⟩
  · next h href =>
    obtain ⟨-, r, hr, -⟩ := driven_of_trackerStateLaw law.states (.inl h)
    exact absurd (href.symm.trans hr) (by simp)
  · next h href =>
    obtain ⟨-, r, hr, -⟩ := driven_of_trackerStateLaw law.states (.inr h)
    exact absurd (href.symm.trans hr) (by simp)
  · next h _ => exact ⟨_, rfl, law.acquireEdge h _⟩
  · next r h href => exact timingLaw_trackEdge law (.inl h) href
  · next r h href => exact timingLaw_trackEdge law (.inr h) href

theorem timingLaw_execSyncEdge {s : State} (law : TimingLaw s) : ∃ t, execSyncEdge s = .next t ∧ TimingLaw t :=
  timingLaw_handleEdge (SameClock.timingLaw (s := s) (t := clearEdgeMark s) ⟨rfl, rfl, rfl, rfl⟩ law)

end Sys2Proof.Machine

/-! SUPPORT. Every command and every step keeps the timing law, which settles the statements on that law. -/

namespace Sys2Proof.Machine

/-! ### Commands that leave the clock alone -/

theorem sameClock_execRequestArrival (r : Request) (s : State) : NextHas (SameClock s) (execRequestArrival r s) := by
  obtain ⟨-, q, n, -, heq⟩ | ⟨-, heq⟩ := execRequestArrival_cases r s
  · rw [heq]
    exact { now := rfl, phase := rfl, active := rfl, tracker := rfl }
  · rw [heq]
    exact SameClock.refl s

theorem sameClock_execTaking (s : State) : NextHas (SameClock s) (execTaking s) := by
  unfold execTaking
  split
  · exact SameClock.refl s
  · split
    · split
      · exact { now := rfl, phase := rfl, active := rfl, tracker := rfl }
      · exact {}
    · exact SameClock.refl s

theorem sameClock_execResponseDeparture (s : State) : NextHas (SameClock s) (execResponseDeparture s) := by
  unfold execResponseDeparture
  split
  · exact SameClock.refl s
  · exact {}

theorem sameClock_execStallTimerExpiry (s : State) : NextHas (SameClock s) (execStallTimerExpiry s) := by
  unfold execStallTimerExpiry
  split
  · split
    · exact SameClock.refl s
    · exact { now := by simp [expireStalled], phase := by simp [expireStalled], active := by simp [expireStalled]
              tracker := by simp [expireStalled] }
  · exact SameClock.refl s

theorem sameClock_execDownstreamResponse (tag : Tag) (a : Answer) (s : State) :
    NextHas (SameClock s) (execDownstreamResponse tag a s) := by
  unfold execDownstreamResponse
  split
  · exact {}
  · split
    · exact {}
    · split
      · exact {}
      · exact {}

theorem sameClock_execDownstreamTimeoutExpiry (tag : Tag) (s : State) :
    NextHas (SameClock s) (execDownstreamTimeoutExpiry tag s) := by
  unfold execDownstreamTimeoutExpiry
  split
  · exact SameClock.refl s
  · dsimp only
    split
    · exact {}
    · exact {}

theorem sameClock_execStaleTagRelease (tag : Tag) (s : State) : NextHas (SameClock s) (execStaleTagRelease tag s) := by
  unfold execStaleTagRelease
  split
  · exact {}
  · exact SameClock.refl s

theorem sameClock_execDeadlineDue (s : State) : NextHas (SameClock s) (execDeadlineDue s) := by
  unfold execDeadlineDue
  split
  · exact SameClock.refl s
  · exact {}

theorem sameClock_execSealPoint (s : State) : NextHas (SameClock s) (execSealPoint s) := by
  unfold execSealPoint
  split
  · exact {}
  · exact SameClock.refl s

theorem sameClock_execSrstnAssertion (s : State) : NextHas (SameClock s) (execSrstnAssertion s) := by
  unfold execSrstnAssertion
  split
  · exact { now := by simp [assertReset], phase := by simp [assertReset], active := by simp [assertReset]
            tracker := by simp [assertReset] }
  · exact SameClock.refl s

theorem sameClock_execSrstnDeassertion (s : State) : NextHas (SameClock s) (execSrstnDeassertion s) := by
  unfold execSrstnDeassertion
  split
  · exact {}
  · exact SameClock.refl s

theorem sameClock_setManagement (s : State) (m : Management) : SameClock s (s.setManagement m) :=
  ⟨rfl, rfl, rfl, rfl⟩

theorem sameClock_execFrameStart (s : State) : NextHas (SameClock s) (execFrameStart s) := by
  unfold execFrameStart
  split
  · exact sameClock_setManagement s _
  · exact SameClock.refl s

theorem sameClock_execFrameEnd (bits : List Bool) (s : State) : NextHas (SameClock s) (execFrameEnd bits s) := by
  unfold execFrameEnd
  split
  · exact sameClock_setManagement s _
  · exact SameClock.refl s

theorem sameClock_execNakCode (code : Byte) (s : State) : NextHas (SameClock s) (execNakCode code s) := by
  unfold execNakCode
  split
  · exact sameClock_setManagement s _
  · exact SameClock.refl s

theorem sameClock_execCommandParameterByte (b : Byte) (s : State) :
    NextHas (SameClock s) (execCommandParameterByte b s) := by
  unfold execCommandParameterByte
  split
  · exact SameClock.refl s
  · exact sameClock_setManagement s _

theorem sameClock_execCommandCrcMismatch (crc : Byte) (s : State) :
    NextHas (SameClock s) (execCommandCrcMismatch crc s) := by
  unfold execCommandCrcMismatch
  split
  · exact sameClock_setManagement s _
  · exact SameClock.refl s

/-! ### Management commands that leave the clock alone -/

theorem sameClock_readRecord (s : State) : SameClock s (readRecord s).1 := by
  unfold readRecord
  split
  · exact SameClock.refl s
  · exact {}

theorem sameClock_ackAttention (mask : Word) (s : State) : SameClock s (ackAttention mask s).1 := by
  unfold ackAttention reply
  split
  · exact {}
  · exact SameClock.refl s

theorem sameClock_holdSeals (s : State) : SameClock s (holdSeals s).1 := by
  unfold holdSeals reply
  split
  · exact SameClock.refl s
  · exact {}

theorem sameClock_releaseSeals (s : State) : SameClock s (releaseSeals s).1 := by
  unfold releaseSeals reply
  split
  · exact {}
  · split
    · exact {}
    · exact SameClock.refl s

theorem sameClock_commitNow (s : State) : SameClock s (commitNow s).1 := by
  unfold commitNow reply
  split
  · exact SameClock.refl s
  · split
    · exact SameClock.refl s
    · exact {}

theorem sameClock_abortOpen (s : State) : SameClock s (abortOpen s).1 := by
  unfold abortOpen reply
  split
  · exact SameClock.refl s
  · exact {}

theorem sameClock_armApply (s : State) : SameClock s (armApply s).1 := by
  unfold armApply reply
  split
  · exact SameClock.refl s
  · exact {}

theorem sameClock_cancelApply (s : State) : SameClock s (cancelApply s).1 := by
  unfold cancelApply reply
  split
  · exact SameClock.refl s
  · exact {}

theorem sameClock_clearFault (index : Byte) (s : State) : SameClock s (clearFault index s).1 := by
  unfold clearFault reply
  split
  · exact {}
  · exact SameClock.refl s

theorem sameClock_writeShadowWindow (w : Window) (f : WindowField) (v : Word) (s : State) :
    SameClock s (writeShadowWindow w f v s).1 := by
  unfold writeShadowWindow
  split
  · exact SameClock.refl s
  · split
    · exact SameClock.refl s
    · exact {}

theorem sameClock_writeShadowTiming (q : TimingField) (v : Word) (s : State) :
    SameClock s (writeShadowTiming q v s).1 := by
  unfold writeShadowTiming
  split
  · exact SameClock.refl s
  · exact {}

theorem sameClock_writeEnableSet (v : Word) (s : State) : SameClock s (writeEnableSet v s).1 := by
  unfold writeEnableSet
  split
  · exact {}
  · exact SameClock.refl s

theorem sameClock_writeHoldLimit (v : Nat) (s : State) : SameClock s (writeHoldLimit v s).1 := by
  unfold writeHoldLimit
  split
  · exact {}
  · exact SameClock.refl s

theorem sameClock_writeLateSeal (v : Nat) (s : State) : SameClock s (writeLateSeal v s).1 := by
  unfold writeLateSeal
  split
  · exact {}
  · exact {}
  · exact SameClock.refl s

theorem sameClock_writeStallLimit (v : Nat) (s : State) : SameClock s (writeStallLimit v s).1 := by
  unfold writeStallLimit
  split
  · exact {}
  · exact SameClock.refl s

theorem sameClock_writeDsTimeout (v : Nat) (s : State) : SameClock s (writeDsTimeout v s).1 := by
  unfold writeDsTimeout
  split
  · exact {}
  · exact SameClock.refl s

theorem sameClock_writeRetryLimit (v : Nat) (s : State) : SameClock s (writeRetryLimit v s).1 := by
  unfold writeRetryLimit
  split
  · exact {}
  · exact SameClock.refl s

theorem sameClock_writeDrainShare (v : Nat) (s : State) : SameClock s (writeDrainShare v s).1 := by
  unfold writeDrainShare
  split
  · exact {}
  · exact SameClock.refl s

/-! ### Writes that reach the tracker (R104 to R106) -/

theorem writeParam_keeps {p : TrackerParam} {v : Nat} {t t' : Tracker} (h : writeParam p v t = some t') :
    t'.state = t.state ∧ t'.trackEn = t.trackEn ∧ t'.reference = t.reference := by
  cases p <;>
  · simp only [writeParam, Option.ite_none_right_eq_some, Option.some.injEq] at h
    obtain ⟨-, rfl⟩ := h
    exact ⟨rfl, rfl, rfl⟩

theorem timingLaw_writeTrackerParam (p : TrackerParam) (v : Word) {s : State} (law : TimingLaw s) :
    TimingLaw (writeTrackerParam p v s).1 := by
  unfold writeTrackerParam
  split
  · exact law
  · next hdisabled =>
    split
    · exact law
    · next t ht =>
      simp only [Bool.not_eq_true] at hdisabled
      have hfree := free_of_disabled law.states hdisabled
      obtain ⟨-, href, hphase⟩ := (trackerStateLaw_free hfree).mp law.states
      obtain ⟨hstate, hen, href'⟩ := writeParam_keeps ht
      have hsets : SetLaw (s.setTracker t) :=
        ⟨law.activeSet, writeParam_law ht law.parameters, fun h => absurd (hen ▸ h) (by simp [hdisabled])⟩
      exact (timingLaw_iff _).mpr ⟨hsets, (trackerStateLaw_free (s := s.setTracker t) (hstate.trans hfree)).mpr
        ⟨hen.trans hdisabled, href'.trans href, hphase⟩⟩

theorem timingLaw_enableTracker {s : State} (law : TimingLaw s) : TimingLaw (enableTracker s).1 := by
  unfold enableTracker
  split
  · exact law
  · next hdisabled =>
    split
    · next hvalid =>
      simp only [Bool.not_eq_true] at hdisabled
      obtain ⟨-, -, hphase⟩ := (trackerStateLaw_free (free_of_disabled law.states hdisabled)).mp law.states
      have hsets : SetLaw (changeTracker
          { s.tracker with
            trackEn := true, state := .acquire, goodCount := 0, lockCount := 0, holdoverCount := 0, reference := none }
          [] s) :=
        ⟨by simpa using law.activeSet, by rw [changeTracker_tracker]; exact law.parameters.of_parameters rfl,
          by simpa using hvalid.2⟩
      exact timingLaw_of_acquire hsets (by simp) (by simp) (by simp) (by simp) (by simpa using hphase)
    · exact law

/-- A disable leaves FREE with the phase within PERIOD: a boundary is taken where it is not (R89, R106). -/
theorem timingLaw_disableTracker {s : State} (law : TimingLaw s) : TimingLaw (disableTracker s).1 := by
  unfold disableTracker
  split
  · have hsets (cs : List Cause) : SetLaw (changeTracker
        { s.tracker with
          trackEn := false, state := .free, goodCount := 0, lockCount := 0, holdoverCount := 0, reference := none }
        cs s) := law.sets.changeTracker cs rfl (by simp)
    show TimingLaw (boundaryIfPast _)
    unfold boundaryIfPast
    simp only [changeTracker_keeps]
    split
    · exact (timingLaw_iff _).mpr ⟨(hsets _).takeBoundary, (trackerStateLaw_free (by simp)).mpr (by simp)⟩
    · next hbefore =>
      refine (timingLaw_iff _).mpr ⟨hsets _, (trackerStateLaw_free (by simp)).mpr ?_⟩
      simpa using Nat.le_of_not_le hbefore
  · exact law

theorem timingLaw_writeTrackEn (v : Word) {s : State} (law : TimingLaw s) : TimingLaw (writeTrackEn v s).1 := by
  unfold writeTrackEn
  split
  · exact timingLaw_enableTracker law
  · split
    · exact timingLaw_disableTracker law
    · exact law

/-- A change of the gate keeps the law: it is about no gate. -/
theorem timingLaw_writeGate (v : Word) {s : State} (law : TimingLaw s) : TimingLaw (writeGate v s).1 := by
  unfold writeGate
  split
  · exact law
  · next g _ =>
    refine (timingLaw_iff _).mpr ⟨law.sets.changeTracker _ rfl id, ?_⟩
    have hstates := law.states
    unfold TrackerStateLaw DrivenLaw at *
    simpa using hstates

theorem timingLaw_writeExisting (it : Item) (v : Word) {s : State} (law : TimingLaw s) :
    TimingLaw (writeExisting it v s).1 := by
  have hsame : ∀ {t : State}, SameClock s t → TimingLaw t := fun h => h.timingLaw law
  cases it with
  | shadowWindow w f => exact hsame (sameClock_writeShadowWindow w f v s)
  | shadowTiming q => exact hsame (sameClock_writeShadowTiming q v s)
  | trackEn => exact timingLaw_writeTrackEn v law
  | trackerParam p => exact timingLaw_writeTrackerParam p v law
  | gate => exact timingLaw_writeGate v law
  | holdLimit => exact hsame (sameClock_writeHoldLimit _ s)
  | lateSeal => exact hsame (sameClock_writeLateSeal _ s)
  | stallLimit => exact hsame (sameClock_writeStallLimit _ s)
  | dsTimeout => exact hsame (sameClock_writeDsTimeout _ s)
  | retryLimit => exact hsame (sameClock_writeRetryLimit _ s)
  | drainShare => exact hsame (sameClock_writeDrainShare _ s)
  | enableSet => exact hsame (sameClock_writeEnableSet v s)
  | _ => exact law

theorem timingLaw_writeItem (item : Half) (v : Word) {s : State} (law : TimingLaw s) :
    TimingLaw (writeItem item v s).1 := by
  unfold writeItem
  split
  · exact law
  · exact timingLaw_writeExisting _ v law

/-! ### Every command -/

theorem timingLaw_execPowerOnReset (srstn mcsn : Level) (s : State) :
    NextHas TimingLaw (execPowerOnReset srstn mcsn s) :=
  SameClock.timingLaw (s := State.reset) ⟨rfl, rfl, rfl, rfl⟩ timingLaw_reset

theorem timingLaw_runCommand {i : Instr} {act : State → State × Option (List Byte)} {s : State} (law : TimingLaw s)
    (h : TimingLaw (act s).1) : NextHas TimingLaw (runCommand i act s) :=
  runCommand_has _ i act s law fun _ => SameClock.timingLaw (s := (act s).1) {} h

theorem timingLaw_runWrite {i : Instr} {write : State → State × ReplyCode} {s : State} (law : TimingLaw s)
    (h : TimingLaw (write s).1) : NextHas TimingLaw (runCommand i (fun t => withCode (write t)) s) :=
  timingLaw_runCommand (act := fun t => withCode (write t)) law h

theorem timingLaw_runReading {i : Instr} (answer : State → Option (List Byte)) {s : State} (law : TimingLaw s) :
    NextHas TimingLaw (runCommand i (fun t => (t, answer t)) s) :=
  timingLaw_runCommand (act := fun t => (t, answer t)) law law

theorem timingLaw_exec (i : Instr) {s : State} (law : TimingLaw s) : NextHas TimingLaw (exec i s) := by
  have hsame : ∀ {o : Host.Outcome State Fault Refusal}, NextHas (SameClock s) o → NextHas TimingLaw o :=
    fun h => h.imp fun _ same => same.timingLaw law
  have hruns : ∀ {i : Instr} {act : State → State × Option (List Byte)}, SameClock s (act s).1 →
      NextHas TimingLaw (runCommand i act s) := fun h => timingLaw_runCommand law (h.timingLaw law)
  cases i with
  | requestArrival r => exact hsame (sameClock_execRequestArrival r s)
  | taking => exact hsame (sameClock_execTaking s)
  | responseDeparture => exact hsame (sameClock_execResponseDeparture s)
  | stallTimerExpiry => exact hsame (sameClock_execStallTimerExpiry s)
  | grant => exact SameClock.timingLaw (s := s) (t := arbitrate s) { now := by simp } law
  | downstreamResponse tag a => exact hsame (sameClock_execDownstreamResponse tag a s)
  | downstreamTimeoutExpiry tag => exact hsame (sameClock_execDownstreamTimeoutExpiry tag s)
  | staleTagRelease tag => exact hsame (sameClock_execStaleTagRelease tag s)
  | deadlineDue => exact hsame (sameClock_execDeadlineDue s)
  | sealPoint => exact hsame (sameClock_execSealPoint s)
  | frameBoundary => exact timingLaw_execFrameBoundary law
  | syncEdge =>
    obtain ⟨t, heq, ht⟩ := timingLaw_execSyncEdge law
    exact (congrArg (NextHas TimingLaw) heq).mpr ht
  | missingSyncPoint => exact timingLaw_execMissingSyncPoint law
  | srstnAssertion => exact hsame (sameClock_execSrstnAssertion s)
  | srstnDeassertion => exact hsame (sameClock_execSrstnDeassertion s)
  | powerOnReset srstn mcsn => exact timingLaw_execPowerOnReset srstn mcsn s
  | frameStart => exact hsame (sameClock_execFrameStart s)
  | frameEnd bits => exact hsame (sameClock_execFrameEnd bits s)
  | nakCode code => exact hsame (sameClock_execNakCode code s)
  | nop => exact timingLaw_runReading (fun _ => none) law
  | readItem item count => exact timingLaw_runReading (fun t => some (readItemReply item count t)) law
  | writeItem item v => exact timingLaw_runWrite law (timingLaw_writeItem item v law)
  | shadowWindowWrite w f v => exact timingLaw_runWrite law ((sameClock_writeShadowWindow w f v s).timingLaw law)
  | shadowTimingWrite q v => exact timingLaw_runWrite law ((sameClock_writeShadowTiming q v s).timingLaw law)
  | trackerParameterWrite p v => exact timingLaw_runWrite law (timingLaw_writeTrackerParam p v law)
  | trackEnEnable => exact timingLaw_runWrite law (timingLaw_enableTracker law)
  | trackEnDisable => exact timingLaw_runWrite law (timingLaw_disableTracker law)
  | gateWrite v => exact timingLaw_runWrite law (timingLaw_writeGate v law)
  | enableSetWrite v => exact timingLaw_runWrite law ((sameClock_writeEnableSet v s).timingLaw law)
  | readRecord => exact hruns (sameClock_readRecord s)
  | ackAttn mask => exact hruns (sameClock_ackAttention mask s)
  | hold => exact hruns (sameClock_holdSeals s)
  | release => exact hruns (sameClock_releaseSeals s)
  | commitNow => exact hruns (sameClock_commitNow s)
  | abortOpen => exact hruns (sameClock_abortOpen s)
  | applyTable => exact hruns (sameClock_armApply s)
  | cancelApply => exact hruns (sameClock_cancelApply s)
  | clearFault index => exact hruns (sameClock_clearFault index s)
  | queryWord a => exact timingLaw_runReading (fun t => some (queryReply t.store a)) law
  | commandParameterByte b => exact hsame (sameClock_execCommandParameterByte b s)
  | commandCrcMismatch crc => exact hsame (sameClock_execCommandCrcMismatch crc s)

end Sys2Proof.Machine

/-! SUPPORT. What no due event means, and the statements on ticks, on stops and on the timing law. -/

namespace Sys2Proof.Machine

/-! ### No event is due (assumption log 2) -/

/-- Every condition of the events, none of which has fallen due. -/
structure NothingDue (s : State) : Prop where
  departing : departing s.uport = none
  grant : canGrant s = false
  stall : (stallExpired s && (takingHead s.uport).isSome) = false
  timeout : dueTimeout s = none
  release : dueRelease s = none
  deadline : lateGeneration s = none
  sealPoint : sealPointDue s = false
  edge : s.sync.edgeDue = false
  missing : missingSyncDue s = false
  boundary : boundaryDue s = false

theorem ite_some_eq_none_iff {α : Type} {c : Prop} [Decidable c] {x : α} {o : Option α} :
    (if c then some x else o) = none ↔ ¬c ∧ o = none := by
  split <;> simp [*]

theorem nothingDue_of_dueCommand {s : State} (h : dueCommand s = none) : NothingDue s := by
  unfold dueCommand at h
  cases htimeout : dueTimeout s with
  | some tag => simp [htimeout, ite_some_eq_none_iff] at h
  | none =>
    cases hrelease : dueRelease s with
    | some tag => simp [htimeout, hrelease, ite_some_eq_none_iff] at h
    | none =>
      simp only [htimeout, hrelease, ite_some_eq_none_iff, Bool.not_eq_true, Option.isSome_eq_false_iff,
        Option.isNone_iff_eq_none] at h
      obtain ⟨hdeparting, hgrant, hstall, hdeadline, hseal, hedge, hmissing, hboundary, -⟩ := h
      exact ⟨hdeparting, hgrant, hstall, htimeout, hrelease, hdeadline, hseal, hedge, hmissing, hboundary⟩

/-- Where TRACK, LOCKED or ACQUIRE has a reference, its missing-sync point lies ahead. -/
theorem NothingDue.before_missing {s : State} (h : NothingDue s)
    (state : s.tracker.state ∈ [TrackerState.acquire, .track, .locked]) {r : Nat} (reference : s.tracker.reference = some r) :
    s.now < r + s.timer.active.period + s.tracker.tolWide := by
  have hmissing := h.missing
  simp only [List.mem_cons, List.not_mem_nil, or_false] at state
  rcases state with hs | hs | hs <;> simpa [missingSyncDue, hs, reference] using hmissing

theorem NothingDue.before_period {s : State} (h : NothingDue s)
    (state : s.tracker.state ∈ [TrackerState.free, .acquire]) : s.timer.phase < s.timer.active.period := by
  have hboundary := h.boundary
  simp only [List.mem_cons, List.not_mem_nil, or_false] at state
  rcases state with hs | hs <;> simpa [boundaryDue, hs] using hboundary

theorem NothingDue.before_plast {s : State} (h : NothingDue s) (state : s.tracker.state = .holdover) :
    s.timer.phase < s.tracker.plast := by
  simpa [boundaryDue, state] using h.boundary

/-- Settles O3, clause by clause from the conditions of the events. -/
theorem noTickPassesADueEvent : Obligations.NoTickPassesADueEvent := by
  intro s hnone
  have h := nothingDue_of_dueCommand hnone
  refine ⟨h.departing, ?_, ?_, ?_, ?_, ?_, h.edge, ?_, fun r hstate href => h.before_missing hstate href,
    h.before_period, h.before_plast⟩
  · have hgrant := h.grant
    simp only [canGrant, Bool.and_eq_false_iff, Bool.or_eq_false_iff, Option.isSome_eq_false_iff,
      Option.isNone_iff_eq_none] at hgrant
    exact hgrant
  · intro d hdue htaking
    have hstall := h.stall
    simp only [stallExpired, hdue, Bool.and_eq_false_iff, decide_eq_false_iff_not, Option.isSome_eq_false_iff,
      Option.isNone_iff_eq_none, htaking, or_false] at hstall
    omega
  · intro m hm
    have htimeout := h.timeout
    simp only [dueTimeout, Option.map_eq_none_iff, List.find?_eq_none, decide_eq_true_eq] at htimeout
    exact Nat.lt_of_not_le (htimeout m hm)
  · intro x hx
    have hrelease := h.release
    simp only [dueRelease, Option.map_eq_none_iff, List.find?_eq_none, decide_eq_true_eq] at hrelease
    exact Nat.lt_of_not_le (hrelease x hx)
  · intro g hg hlate
    have hdeadline := h.deadline
    simp only [lateGeneration, hg, Option.filter_eq_none_iff, Option.some.injEq, forall_eq', hlate, Bool.not_false,
      Bool.true_and, decide_eq_true_eq] at hdeadline
    omega
  · intro hoffered
    simpa [sealPointDue, hoffered] using h.sealPoint

/-! ### The timing law on ticks and steps -/

/-- A tick brings the phase up to the instant where the boundary or the missing-sync point falls due, and not past it. -/
theorem timingLaw_tick {s : State} (law : TimingLaw s) (none : dueCommand s = none) : TimingLaw (tick s) := by
  have h := nothingDue_of_dueCommand none
  refine (timingLaw_iff _).mpr ⟨law.sets.of_eq rfl rfl id, ?_⟩
  have hdriven : DrivenLaw s → s.tracker.state ∈ [TrackerState.acquire, .track, .locked] → DrivenLaw (tick s) := by
    rintro ⟨r, href, hphase, -, hlow, hhigh⟩ hstate
    have hahead := h.before_missing hstate href
    refine ⟨r, href, ?_, ?_, hlow, hhigh⟩
    · show r + (s.timer.phase + 1) = s.now + 1
      omega
    · show s.timer.phase + 1 ≤ s.timer.active.period + s.tracker.tolWide
      omega
  cases hstate : s.tracker.state with
  | free =>
    obtain ⟨hen, href, -⟩ := (trackerStateLaw_free hstate).mp law.states
    exact (trackerStateLaw_free (s := tick s) hstate).mpr ⟨hen, href, h.before_period (by simp [hstate])⟩
  | acquire =>
    obtain ⟨hen, href, hgood, -⟩ := (trackerStateLaw_acquire hstate).mp law.states
    exact (trackerStateLaw_acquire (s := tick s) hstate).mpr
      ⟨hen, fun r hr => Nat.le_succ_of_le (href r hr), hgood, h.before_period (by simp [hstate])⟩
  | track =>
    obtain ⟨hen, hlaw, hcount⟩ := (trackerStateLaw_track hstate).mp law.states
    exact (trackerStateLaw_track (s := tick s) hstate).mpr ⟨hen, hdriven hlaw (by simp [hstate]), hcount⟩
  | locked =>
    obtain ⟨hen, hlaw, hcount⟩ := (trackerStateLaw_locked hstate).mp law.states
    exact (trackerStateLaw_locked (s := tick s) hstate).mpr ⟨hen, hdriven hlaw (by simp [hstate]), hcount⟩
  | holdover =>
    obtain ⟨hen, ⟨r, href, hr⟩, hcount, -, hlow, hhigh⟩ := (trackerStateLaw_holdover hstate).mp law.states
    exact (trackerStateLaw_holdover (s := tick s) hstate).mpr
      ⟨hen, ⟨r, href, Nat.le_succ_of_le hr⟩, hcount, h.before_plast hstate, hlow, hhigh⟩

theorem timingLaw_setPending (s : State) (q : List Instr) (law : TimingLaw s) : TimingLaw (s.setPending q) :=
  SameClock.timingLaw (s := s) ⟨rfl, rfl, rfl, rfl⟩ law

/-- Settles O17: the law is kept by each command, by the queue and by a tick on which no event is due. -/
theorem timingLawIsKept : Obligations.TimingLawIsKept := fun s t law hstep =>
  (nextHas_iff _ _).mp
    (step_has TimingLaw timingLaw_setPending (fun i _ law => timingLaw_exec i law) (fun _ => timingLaw_tick) s law) t hstep

/-! ### What stops (assumption log 8) -/

/-- The outcome is a next state. -/
def Runs (o : Host.Outcome State Fault Refusal) : Prop :=
  ∃ t, o = .next t

theorem Runs.next (t : State) : Runs (.next t) := ⟨t, rfl⟩

theorem Runs.runCommand (i : Instr) (act : State → State × Option (List Byte)) (s : State) : Runs (runCommand i act s) := by
  unfold Machine.runCommand
  split
  · exact .next _
  · exact .next _

/-- Every command but SYNC_EDGE answers a next state, in every state. -/
theorem exec_runs {i : Instr} (s : State) (h : i ≠ .syncEdge) : Runs (exec i s) := by
  cases i with
  | syncEdge => exact absurd rfl h
  | requestArrival r =>
    show Runs (execRequestArrival r s)
    unfold execRequestArrival
    (repeat' split) <;> exact .next _
  | taking =>
    show Runs (execTaking s)
    unfold execTaking
    (repeat' split) <;> exact .next _
  | responseDeparture =>
    show Runs (execResponseDeparture s)
    unfold execResponseDeparture
    split <;> exact .next _
  | stallTimerExpiry =>
    show Runs (execStallTimerExpiry s)
    unfold execStallTimerExpiry
    (repeat' split) <;> exact .next _
  | grant => exact .next _
  | downstreamResponse tag a =>
    show Runs (execDownstreamResponse tag a s)
    unfold execDownstreamResponse
    (repeat' split) <;> exact .next _
  | downstreamTimeoutExpiry tag =>
    show Runs (execDownstreamTimeoutExpiry tag s)
    unfold execDownstreamTimeoutExpiry
    dsimp only
    (repeat' split) <;> exact .next _
  | staleTagRelease tag =>
    show Runs (execStaleTagRelease tag s)
    unfold execStaleTagRelease
    split <;> exact .next _
  | deadlineDue =>
    show Runs (execDeadlineDue s)
    unfold execDeadlineDue
    split <;> exact .next _
  | sealPoint =>
    show Runs (execSealPoint s)
    unfold execSealPoint
    split <;> exact .next _
  | frameBoundary =>
    show Runs (execFrameBoundary s)
    unfold execFrameBoundary
    (repeat' split) <;> exact .next _
  | missingSyncPoint =>
    show Runs (execMissingSyncPoint s)
    unfold execMissingSyncPoint
    (repeat' split) <;> exact .next _
  | srstnAssertion =>
    show Runs (execSrstnAssertion s)
    unfold execSrstnAssertion
    split <;> exact .next _
  | srstnDeassertion =>
    show Runs (execSrstnDeassertion s)
    unfold execSrstnDeassertion
    split <;> exact .next _
  | powerOnReset srstn mcsn => exact .next _
  | frameStart =>
    show Runs (execFrameStart s)
    unfold execFrameStart
    split <;> exact .next _
  | frameEnd bits =>
    show Runs (execFrameEnd bits s)
    unfold execFrameEnd
    split <;> exact .next _
  | nakCode code =>
    show Runs (execNakCode code s)
    unfold execNakCode
    split <;> exact .next _
  | commandParameterByte b =>
    show Runs (execCommandParameterByte b s)
    unfold execCommandParameterByte
    split <;> exact .next _
  | commandCrcMismatch crc =>
    show Runs (execCommandCrcMismatch crc s)
    unfold execCommandCrcMismatch
    split <;> exact .next _
  | nop => exact Runs.runCommand _ (fun t => (t, none)) s
  | readItem item count => exact Runs.runCommand _ (fun t => (t, some (readItemReply item count t))) s
  | writeItem item v => exact Runs.runCommand _ (fun t => withCode (writeItem item v t)) s
  | shadowWindowWrite w f v => exact Runs.runCommand _ (fun t => withCode (writeShadowWindow w f v t)) s
  | shadowTimingWrite q v => exact Runs.runCommand _ (fun t => withCode (writeShadowTiming q v t)) s
  | trackerParameterWrite p v => exact Runs.runCommand _ (fun t => withCode (writeTrackerParam p v t)) s
  | trackEnEnable => exact Runs.runCommand _ (fun t => withCode (enableTracker t)) s
  | trackEnDisable => exact Runs.runCommand _ (fun t => withCode (disableTracker t)) s
  | gateWrite v => exact Runs.runCommand _ (fun t => withCode (writeGate v t)) s
  | enableSetWrite v => exact Runs.runCommand _ (fun t => withCode (writeEnableSet v t)) s
  | queryWord a => exact Runs.runCommand _ (fun t => (t, some (queryReply t.store a))) s
  | _ => exact Runs.runCommand _ _ s

/-- The class LATE-EDGE is that of an interval beyond PERIOD + TOL_WIDE, where TOL_NARROW is within TOL_WIDE or not. -/
theorem bounds_of_lateEdge {i period narrow wide : Nat} (h : classOf i period narrow wide = .lateEdge) :
    period ≤ i ∧ ¬Within i period wide := by
  unfold classOf at h
  split at h
  · cases h
  · split at h
    · cases h
    · next hwide =>
      rw [difference_le_iff] at hwide
      split at h
      · cases h
      · exact ⟨by omega, fun hw => hwide hw.symm⟩

/-- An edge answers a next state, or is a LATE-EDGE in TRACK or LOCKED. -/
theorem handleEdge_stops (s : State) : Runs (handleEdge s) ∨
    handleEdge s = .fault .lateEdgeInTrack ∧ (s.tracker.state = .track ∨ s.tracker.state = .locked) ∧
      ∃ r, s.tracker.reference = some r ∧ s.timer.active.period ≤ s.now - r ∧
        ¬Within (s.now - r) s.timer.active.period s.tracker.tolWide := by
  have htrack : ∀ r, s.tracker.reference = some r → (s.tracker.state = .track ∨ s.tracker.state = .locked) →
      Runs (trackEdge (s.now - r) s) ∨
        trackEdge (s.now - r) s = .fault .lateEdgeInTrack ∧ (s.tracker.state = .track ∨ s.tracker.state = .locked) ∧
          ∃ r, s.tracker.reference = some r ∧ s.timer.active.period ≤ s.now - r ∧
            ¬Within (s.now - r) s.timer.active.period s.tracker.tolWide := by
    intro r href hstate
    unfold trackEdge
    dsimp only
    split
    · exact .inl (.next _)
    · exact .inl (.next _)
    · exact .inl (.next _)
    · next hlate => exact .inr ⟨rfl, hstate, r, href, bounds_of_lateEdge hlate⟩
  unfold handleEdge
  split
  · exact .inl (.next _)
  · exact .inl (.next _)
  · exact .inl (.next _)
  · exact .inl (.next _)
  · exact .inl (.next _)
  · exact .inl (.next _)
  · next r h href => exact htrack r href (.inl h)
  · next r h href => exact htrack r href (.inr h)

/-- Settles O5: only an edge can stop the machine. -/
theorem stopsAreOnlyThoseNamed : Obligations.StopsAreOnlyThoseNamed := by
  intro i s
  by_cases hi : i = .syncEdge
  · subst hi
    have hexec : exec .syncEdge s = handleEdge (clearEdgeMark s) := rfl
    rw [hexec]
    obtain ⟨t, ht⟩ | ⟨hfault, hstate, hlate⟩ := handleEdge_stops (clearEdgeMark s)
    · rw [ht]
      exact ⟨fun _ h => (by cases h), fun _ h => (by cases h), fun _ => ⟨t, rfl⟩⟩
    · rw [hfault]
      refine ⟨?_, fun _ h => (by cases h), ?_⟩
      · rintro f hf
        cases hf
        exact ⟨rfl, rfl, hstate, hlate⟩
      · rintro (h | ⟨htrack, hlocked⟩)
        · exact absurd rfl h
        · exact absurd hstate (not_or.mpr ⟨htrack, hlocked⟩)
  · obtain ⟨t, ht⟩ := exec_runs s hi
    rw [ht]
    exact ⟨fun _ h => (by cases h), fun _ h => (by cases h), fun _ => ⟨t, rfl⟩⟩

/-- Under the timing law no command faults. -/
theorem exec_ne_fault {i : Instr} {s : State} {f : Fault} (law : TimingLaw s) : exec i s ≠ .fault f := by
  intro hfault
  obtain ⟨rfl, -⟩ := (stopsAreOnlyThoseNamed i s).1 f hfault
  obtain ⟨t, ht, -⟩ := timingLaw_execSyncEdge law
  exact absurd (hfault.symm.trans ht) (by simp)

/-- Settles O18. -/
theorem timingLawExcludesTheFault : Obligations.TimingLawExcludesTheFault := by
  intro s f law hfault
  unfold step at hfault
  split at hfault
  · unfold idleStep at hfault
    split at hfault
    · exact exec_ne_fault law hfault
    · cases hfault
  · exact exec_ne_fault (timingLaw_setPending s _ law) hfault

end Sys2Proof.Machine

/-! SUPPORT. The wire forms: the item map, the command frames and the CRC-8, with the statements on them. -/

namespace Sys2Proof.Machine

/-! ### The item map (section 10.9) -/

theorem windowFieldOffset_windowFieldAt {k : Nat} (h : k < 4) : windowFieldOffset (windowFieldAt k) = k := by
  match k, h with
  | 0, _ => rfl
  | 1, _ => rfl
  | 2, _ => rfl
  | 3, _ => rfl

/-- Every number of the scalar items is the number of its item. -/
theorem itemNumber_of_mem_scalarItems : ∀ p ∈ scalarItems, p.1 = itemNumber p.2 := by decide

/-- The number of an item finds that item. -/
theorem itemOfNumber_itemNumber (it : Item) : itemOfNumber (itemNumber it) = some it := by
  cases it with
  | shadowWindow w f =>
    revert w
    cases f <;> decide
  | activeWindow w f =>
    revert w
    cases f <;> decide
  | windowCounts w =>
    revert w
    decide
  | shadowTiming q => cases q <;> rfl
  | activeTiming q => cases q <;> rfl
  | trackerParam p => cases p <;> rfl
  | _ => rfl

/-- The number at which an item is found is its number. -/
theorem itemNumber_of_itemOfNumber {n : Nat} {it : Item} (h : itemOfNumber n = some it) : n = itemNumber it := by
  unfold itemOfNumber at h
  split at h
  · next hrange =>
    simp only [Option.some.injEq] at h
    subst h
    simp only [itemNumber, Fin.ofNat, windowFieldOffset_windowFieldAt (Nat.mod_lt _ (by decide : 0 < 4))]
    omega
  · split at h
    · next hrange =>
      simp only [Option.some.injEq] at h
      subst h
      simp only [itemNumber, Fin.ofNat, windowFieldOffset_windowFieldAt (Nat.mod_lt _ (by decide : 0 < 4))]
      omega
    · split at h
      · next hrange =>
        simp only [Option.some.injEq] at h
        subst h
        simp only [itemNumber, Fin.ofNat]
        omega
      · obtain ⟨before, after, hsplit, -⟩ := List.lookup_eq_some_iff.mp h
        exact itemNumber_of_mem_scalarItems (n, it) (by simp [hsplit])

/-- Settles O20. -/
theorem itemNumbersRoundTrip : Obligations.ItemNumbersRoundTrip := by
  refine ⟨fun n it => ⟨itemNumber_of_itemOfNumber, ?_⟩, ?_, fun _ => rfl, by decide, by decide⟩
  · rintro rfl
    exact itemOfNumber_itemNumber it
  · intro w p hp
    simp only [List.mem_cons, List.not_mem_nil, or_false] at hp
    rcases hp with rfl | rfl | rfl | rfl <;> exact ⟨rfl, rfl⟩

/-! ### Command frames (section 10.9) -/

theorem half_bytes (h : Half) : half (h.extractLsb' 8 8) (h.extractLsb' 0 8) = h := by
  apply BitVec.eq_of_getLsbD_eq
  intro i hi
  rw [half, BitVec.getLsbD_append]
  split
  · next hlow => simp [hlow]
  · next hlow =>
    have hhigh : i - 8 < 8 := by omega
    have hsum : 8 + (i - 8) = i := by omega
    simp [hhigh, hsum]

theorem word_bytes (v : Word) :
    word (v.extractLsb' 24 8) (v.extractLsb' 16 8) (v.extractLsb' 8 8) (v.extractLsb' 0 8) = v := by
  apply BitVec.eq_of_getLsbD_eq
  intro i hi
  simp only [word, BitVec.getLsbD_append, BitVec.getLsbD_extractLsb']
  split
  · next h0 => simp [h0]
  · split
    · next h1 =>
      have hsum : 8 + (i - 8) = i := by omega
      simp [h1, hsum]
    · split
      · next h2 =>
        have hsum : 16 + (i - 8 - 8) = i := by omega
        simp [h2, hsum]
      · have h3 : i - 8 - 8 - 8 < 8 := by omega
        have hsum : 24 + (i - 8 - 8 - 8) = i := by omega
        simp [h3, hsum]

/-- A WRITE_ITEM frame decodes to the row of its item. -/
theorem commandOfBytes_writeItemBytes (item : Half) (v : Word) :
    commandOfBytes (writeItemBytes item v) = some (writeRow item v) := by
  simp [writeItemBytes, bytes16, bytes32, commandOfBytes, half_bytes, word_bytes]

theorem itemNumber_lt (it : Item) : itemNumber it < 65536 := by
  cases it with
  | shadowWindow w f => cases f <;> simp only [itemNumber, windowFieldOffset] <;> omega
  | activeWindow w f => cases f <;> simp only [itemNumber, windowFieldOffset] <;> omega
  | windowCounts w => simp only [itemNumber]; omega
  | shadowTiming q => cases q <;> decide
  | activeTiming q => cases q <;> decide
  | trackerParam p => cases p <;> decide
  | _ => decide

/-- The row of a frame that writes an item is chosen by the item. -/
theorem itemOfNumber_ofNat (it : Item) : itemOfNumber (BitVec.ofNat 16 (itemNumber it)).toNat = some it := by
  rw [BitVec.toNat_ofNat, Nat.mod_eq_of_lt (itemNumber_lt it), itemOfNumber_itemNumber]

/-- An item without a row of its own is written by WRITE_ITEM. -/
theorem writeRow_of_noRow {item : Half} {v : Word} (h : writeHasOwnRow item v = false) :
    writeRow item v = .writeItem item v := by
  have hnumber : ∀ it, itemOfNumber item.toNat = some it → item.toNat = itemNumber it :=
    fun _ => itemNumber_of_itemOfNumber
  simp only [writeHasOwnRow, Bool.or_eq_false_iff, Bool.and_eq_false_iff, decide_eq_false_iff_not, beq_eq_false_iff_ne] at h
  obtain ⟨⟨⟨⟨hwindow, htiming⟩, hparam⟩, henable⟩, htrack⟩ := h
  unfold writeRow
  split
  · next w f hit =>
    have hn := hnumber _ hit
    cases f <;> simp only [itemNumber, windowFieldOffset] at hn <;> omega
  · next q hit =>
    have hn := hnumber _ hit
    cases q <;> simp only [itemNumber, timingFieldOffset] at hn <;> omega
  · next p hit =>
    have hn := hnumber _ hit
    cases p <;> simp only [itemNumber, trackerParamNumber] at hn <;> omega
  · next hit =>
    have hn := hnumber _ hit
    have hbig := htrack.resolve_left (not_not.mpr hn)
    split
    · next hv => exact absurd (by rw [hv]; decide) hbig
    · split
      · next hv => exact absurd (by rw [hv]; decide) hbig
      · rfl
  · next hit =>
    have hn := hnumber _ hit
    simp only [itemNumber] at hn
    omega
  · next hit => exact absurd (hnumber _ hit) henable
  · rfl

/-- The code and the parameters of a frame. -/
theorem frame_of_paramCount {code : Byte} {params : List Byte} (h : paramCount code = some params.length) :
    ∃ c ps, code :: params = c :: ps ∧ paramCount c = some ps.length :=
  ⟨code, params, rfl, h⟩

theorem frame_writeItemBytes (item : Half) (v : Word) :
    ∃ code params, writeItemBytes item v = code :: params ∧ paramCount code = some params.length :=
  frame_of_paramCount rfl

/-- Every command's frame decodes to that command, and its code fixes the number of its parameter bytes. -/
theorem commandOfBytes_commandBytes {i : Instr} {bs : List Byte} (hwf : i.wf = true) (h : commandBytes i = some bs) :
    commandOfBytes bs = some i ∧ ∃ code params, bs = code :: params ∧ paramCount code = some params.length := by
  cases i with
  | writeItem item v =>
    cases h
    rw [commandOfBytes_writeItemBytes, writeRow_of_noRow (by simpa [Instr.wf] using hwf)]
    exact ⟨rfl, frame_writeItemBytes item v⟩
  | shadowWindowWrite w f v =>
    cases h
    exact ⟨by rw [commandOfBytes_writeItemBytes, writeRow, itemOfNumber_ofNat], frame_writeItemBytes _ v⟩
  | shadowTimingWrite q v =>
    cases h
    exact ⟨by rw [commandOfBytes_writeItemBytes, writeRow, itemOfNumber_ofNat], frame_writeItemBytes _ v⟩
  | trackerParameterWrite p v =>
    cases h
    exact ⟨by rw [commandOfBytes_writeItemBytes, writeRow, itemOfNumber_ofNat], frame_writeItemBytes _ v⟩
  | trackEnEnable =>
    cases h
    exact ⟨by decide, frame_writeItemBytes _ _⟩
  | trackEnDisable =>
    cases h
    exact ⟨by decide, frame_writeItemBytes _ _⟩
  | gateWrite v =>
    cases h
    exact ⟨by rw [commandOfBytes_writeItemBytes, writeRow, itemOfNumber_ofNat], frame_writeItemBytes _ v⟩
  | enableSetWrite v =>
    cases h
    exact ⟨by rw [commandOfBytes_writeItemBytes, writeRow, itemOfNumber_ofNat], frame_writeItemBytes _ v⟩
  | readItem item count =>
    cases h
    exact ⟨by simp [bytes16, commandOfBytes, half_bytes], frame_of_paramCount rfl⟩
  | ackAttn mask =>
    cases h
    exact ⟨by simp [bytes32, commandOfBytes, word_bytes], frame_of_paramCount rfl⟩
  | queryWord a =>
    cases h
    exact ⟨by simp [bytes32, commandOfBytes, word_bytes], frame_of_paramCount rfl⟩
  | clearFault index =>
    cases h
    exact ⟨by simp [commandOfBytes], frame_of_paramCount rfl⟩
  | nop | readRecord | hold | release | commitNow | abortOpen | applyTable | cancelApply =>
    cases h
    exact ⟨rfl, frame_of_paramCount rfl⟩
  | _ => cases h

/-- Settles O19. -/
theorem commandFramesRoundTrip : Obligations.CommandFramesRoundTrip := by
  refine ⟨fun _ _ => commandOfBytes_commandBytes, ⟨fun _ => rfl, fun _ => rfl⟩, rfl, fun _ _ => rfl, fun _ _ => rfl, rfl,
    fun _ => rfl, rfl, rfl, rfl, rfl, rfl, rfl, fun _ => rfl, fun _ => rfl, fun _ _ _ => rfl, fun _ _ => rfl,
    fun _ _ => rfl, rfl, rfl, fun _ => rfl, fun _ => rfl⟩

/-! ### CRC-8 (R175) -/

theorem crc8_append (bs : List Byte) (b : Byte) : crc8 (bs ++ [b]) = crcShifts 8 (crc8 bs ^^^ b) := by
  simp [crc8, crcByte]

/-- Settles O21: a message followed by its CRC leaves the register 0 before the last eight shifts. -/
theorem crcOfAMessage : Obligations.CrcOfAMessage := by
  refine ⟨?_, ?_, ?_, ?_, ?_, ?_, ?_, ?_, rfl, fun _ => rfl, fun bs b => ?_, fun bs => ?_⟩
  iterate 8 simp [crc8, crcByte, crcShifts, crcShift]
  · rw [crc8_append]
    rfl
  · rw [crc8_append, BitVec.xor_self]
    rfl

end Sys2Proof.Machine

/-! SUPPORT. The step, the upstream port and the timers: what each command does, by the cases of its rule. -/

namespace Sys2Proof.Machine

/-! ### Steps and the power-on state -/

/-- Settles O1. -/
theorem stepRunsFrontCommand : Obligations.StepRunsFrontCommand :=
  fun c rest s h => step_cons s c rest h

theorem nextLevel_eq (levels : List Level) : nextLevel levels = levels.headD .low := by
  cases levels with
  | nil => rfl
  | cons l ls => rfl

theorem level_beq (a b : Level) : (a == b) = decide (a = b) := by
  cases a <;> cases b <;> rfl

theorem sampleSync_eq (c : SyncInput) : sampleSync c =
    { levels := c.levels.drop 1
      previous := c.levels.headD .low
      beforeThat := c.previous
      edgeDue := decide (c.levels.headD .low = .high ∧ c.previous = .high ∧ c.beforeThat = .low) } := by
  simp only [sampleSync, nextLevel_eq, level_beq, Bool.decide_and, Bool.and_assoc]

/-- Settles O2. -/
theorem idleStepRunsDueEventElseTicks : Obligations.IdleStepRunsDueEventElseTicks := by
  intro s hnil
  rw [step_nil s hnil, idleStep]
  refine ⟨fun c hc => by rw [hc], fun hnone => ?_⟩
  rw [hnone, ← sampleSync_eq]
  rfl

/-- Settles O6. -/
theorem powerOnResetState : Obligations.PowerOnResetState := by
  intro srstn mcsn s
  rw [← level_beq]
  rfl

/-! ### Arrivals and departures (R44, R45, R47) -/

/-- Settles O22: the request recorded is the one that the port makes of the arrival. -/
theorem requestArrivalIsAcceptedOrWithheld : Obligations.RequestArrivalIsAcceptedOrWithheld := by
  intro r s
  refine ⟨fun hopen hroom => ⟨received s.drawn r, ?_, received_of_wf _ _, received_wf _ _, rfl, received_read _ _,
    received_len _ _, received_payload _ _⟩, fun hclosed => ?_⟩
  · have haccepts : accepts s.uport = true := by simp [accepts, hopen, hroom, Config.urqDepth]
    show execRequestArrival r s = _
    unfold execRequestArrival
    rw [if_pos haccepts]
    split
    · next hwf =>
      rw [received_of_wf _ _ hwf]
      rfl
    · rfl
  · have hwithheld : accepts s.uport = false := by
      rcases hclosed with h | h
      · simp [accepts, h]
      · simp [accepts, Config.urqDepth, Nat.not_lt_of_le h]
    show execRequestArrival r s = _
    unfold execRequestArrival
    rw [hwithheld]
    rfl

/-- Settles O29. -/
theorem responseDeparture : Obligations.ResponseDeparture := by
  intro s
  refine ⟨fun e rest a hurq hphase ha hopen => ?_, fun hstays => ?_⟩
  · have hdeparting : departing s.uport = some a := by simp [departing, hurq, hopen, hphase, ha]
    show execResponseDeparture s = _
    unfold execResponseDeparture
    rw [hdeparting, hurq]
    rfl
  · have hdeparting : departing s.uport = none := by
      rcases hstays with h | h | ⟨e, rest, hurq, hphase⟩
      · simp [departing, h]
      · cases hurq : s.uport.urq <;> simp [departing, hurq, h]
      · simp [departing, hurq, hphase]
    show execResponseDeparture s = _
    unfold execResponseDeparture
    rw [hdeparting]

/-! ### Timers (R51, R54, R69, R76) -/

/-- Settles O30. -/
theorem stallTimerExpiry : Obligations.StallTimerExpiry := by
  intro s
  refine ⟨fun d e hstall hdue htaking => ?_, fun hstays => ?_⟩
  · have hexpired : stallExpired s = true := by simp [stallExpired, hstall, hdue]
    show execStallTimerExpiry s = _
    unfold execStallTimerExpiry
    rw [if_pos hexpired, htaking]
    rfl
  · have hrunning : stallExpired s = false := by
      rcases hstays with h | h | ⟨d, h, hlater⟩
      · simp [stallExpired, h]
      · simp [stallExpired, h]
      · simp [stallExpired, h, hlater]
    show execStallTimerExpiry s = _
    unfold execStallTimerExpiry
    rw [hrunning]
    rfl

theorem releaseDue_iff (s : State) (tag : Tag) :
    releaseDue s tag = true ↔ ∃ x ∈ s.dport.stale, x.tag = tag ∧ x.release ≤ s.now := by
  simp [releaseDue]

/-- Settles O37. -/
theorem staleReleaseAndDeadline : Obligations.StaleReleaseAndDeadline := by
  intro s
  refine ⟨fun tag hdue => ?_, fun tag hlater => ?_, fun g hg hlate hdue => ?_, fun hnone => ?_, fun g hg hstays => ?_⟩
  · show execStaleTagRelease tag s = _
    unfold execStaleTagRelease
    rw [if_pos ((releaseDue_iff s tag).mpr hdue)]
    rfl
  · have hnot : ¬releaseDue s tag = true := by
      rw [releaseDue_iff]
      rintro ⟨x, hx, htag, hdue⟩
      exact absurd hdue (Nat.not_le_of_lt (hlater x hx htag))
    show execStaleTagRelease tag s = _
    unfold execStaleTagRelease
    rw [if_neg hnot]
  · have hgen : lateGeneration s = some g := by simp [lateGeneration, hg, hlate, hdue]
    show execDeadlineDue s = _
    unfold execDeadlineDue
    rw [hgen]
    simp [withSealed]
  · have hgen : lateGeneration s = none := by simp [lateGeneration, hnone]
    show execDeadlineDue s = _
    unfold execDeadlineDue
    rw [hgen]
  · have hgen : lateGeneration s = none := by
      rcases hstays with h | h
      · simp [lateGeneration, hg, h]
      · simp [lateGeneration, hg, h]
    show execDeadlineDue s = _
    unfold execDeadlineDue
    rw [hgen]

end Sys2Proof.Machine

/-! SUPPORT. The classification of an address and the taking of the head, by its classification, its payload, its policy
and what the store holds, with the statements on TAKING. -/

namespace Sys2Proof.Machine

/-! ### Windows (R25, R26, R34) -/

/-- In an ascending list of all indices, what is found is the least. -/
theorem find?_eq_some_iff_least {n : Nat} {l : List (Fin n)} (ascending : l.Pairwise (· < ·)) (all : ∀ x, x ∈ l)
    (p : Fin n → Bool) (w : Fin n) : l.find? p = some w ↔ p w = true ∧ ∀ v, v < w → p v = false := by
  have least : ∀ {u}, l.find? p = some u → p u = true ∧ ∀ v, v < u → p v = false := by
    intro u hu
    obtain ⟨hp, before, after, hsplit, hnot⟩ := List.find?_eq_some_iff_append.mp hu
    refine ⟨hp, fun v hv => ?_⟩
    have hmem := all v
    rw [hsplit, List.mem_append, List.mem_cons] at hmem
    rcases hmem with hbefore | rfl | hafter
    · simpa using hnot v hbefore
    · exact absurd hv (lt_irrefl _)
    · rw [hsplit] at ascending
      have hlt := (List.pairwise_cons.mp (List.pairwise_append.mp ascending).2.1).1 v hafter
      exact absurd hv (lt_asymm hlt)
  refine ⟨least, fun ⟨hw, hbelow⟩ => ?_⟩
  cases hfound : l.find? p with
  | none => exact absurd hw (List.find?_eq_none.mp hfound w (all w))
  | some u =>
    obtain ⟨hu, hbelow'⟩ := least hfound
    rcases lt_trichotomy u w with h | h | h
    · exact absurd hu (by simp [hbelow u h])
    · rw [h]
    · exact absurd hw (by simp [hbelow' w h])

theorem windowIndices_ascending : windowIndices.Pairwise (· < ·) := by decide

theorem mem_windowIndices (w : Window) : w ∈ windowIndices := by
  revert w
  decide

theorem covers_iff (d : Descriptor) (a : Word) : covers d a = true ↔
    d.enable = true ∧ d.base.toNat ≤ a.toNat ∧ a.toNat < d.base.toNat + d.pages * 4096 := by
  simp only [covers, Bool.and_eq_true, decide_eq_true_eq, and_assoc]
  rfl

theorem overlaps_iff (d e : Descriptor) : overlaps d e = true ↔
    d.enable = true ∧ e.enable = true ∧ d.base.toNat < e.base.toNat + e.pages * 4096 ∧
      e.base.toNat < d.base.toNat + d.pages * 4096 := by
  simp only [overlaps, Bool.and_eq_true, decide_eq_true_eq, and_assoc]
  rfl

theorem breaksLimit_iff (d : Descriptor) : breaksLimit d = true ↔
    d.enable = true ∧ 4294967296 < d.base.toNat + d.pages * 4096 := by
  simp only [breaksLimit, Bool.and_eq_true, decide_eq_true_eq]
  rfl

theorem windowFails_iff (table : List Descriptor) (w : Window) : windowFails table w = true ↔
    breaksLimit (descriptorOf table w) = true ∨
      ∃ v, v ≠ w ∧ overlaps (descriptorOf table w) (descriptorOf table v) = true := by
  simp [windowFails, mem_windowIndices]

theorem failingWindow_iff (table : List Descriptor) (w : Window) : failingWindow table = some w ↔
    windowFails table w = true ∧ ∀ v, v < w → windowFails table v = false :=
  find?_eq_some_iff_least windowIndices_ascending mem_windowIndices _ w

theorem classify_passThrough_iff (t : WindowTable) (a : Word) : classify t a = .passThrough ↔
    ∀ w, covers (descriptorOf t.active w) a = false := by
  unfold classify
  split
  · next hnone => simpa [mem_windowIndices] using List.find?_eq_none.mp hnone
  · next w hw => 
    have hcovers : covers (descriptorOf t.active w) a = true := by simpa using List.find?_some hw
    simpa using ⟨w, hcovers⟩

/-- An address is pass-through, or staged in a window that covers it. -/
theorem classify_cases (t : WindowTable) (a : Word) : classify t a = .passThrough ∨ ∃ w,
    covers (descriptorOf t.active w) a = true ∧ classify t a =
      .staged w (descriptorOf t.active w).policy (descriptorOf t.active w).view (runStateOf t w) := by
  unfold classify
  split
  · exact .inl rfl
  · next w hw => exact .inr ⟨w, by simpa using List.find?_some hw, rfl⟩

/-- Under the law of R34 no two windows cover one address. -/
theorem window_of_covers {s : State} (law : WindowLaw s) {a : Word} {v w : Window}
    (hv : covers (descriptorOf s.windows.active v) a = true) (hw : covers (descriptorOf s.windows.active w) a = true) :
    v = w := by
  by_contra hne
  have hfails : windowFails s.windows.active v = true := by
    rw [windowFails_iff]
    refine .inr ⟨w, fun h => hne h.symm, ?_⟩
    rw [covers_iff] at hv hw
    rw [overlaps_iff]
    exact ⟨hv.1, hw.1, by omega, by omega⟩
  exact absurd hfails (List.find?_eq_none.mp law.noneFails v (mem_windowIndices v))

theorem classifiedStaged_iff (t : WindowTable) (a : Word) : classifiedStaged t a = true ↔ classify t a ≠ .passThrough := by
  unfold classifiedStaged
  split
  · next h => simp [h]
  · next h => simp [h]

theorem isSpill_iff (f : Forward) : isSpill f = true ↔ ∃ n, f.origin = .spill n := by
  unfold isSpill
  split <;> next h => simp [h]

theorem sharesWord_iff (r w : Request) : sharesWord r w = true ↔
    ∃ a ∈ rangeWords r, ∃ p ∈ carryingWords w, p.1 = a := by
  simp [sharesWord]

theorem spillOrderedHold_iff (s : State) (e : UrqEntry) : spillOrderedHold s e = true ↔
    classify s.windows e.request.addr ≠ .passThrough ∧
      ∃ f ∈ s.uport.issueOrder, (∃ n, f.origin = .spill n) ∧
        ∃ a ∈ rangeWords e.request, ∃ p ∈ carryingWords f.request, p.1 = a := by
  simp only [spillOrderedHold, Bool.and_eq_true, classifiedStaged_iff, List.any_eq_true, isSpill_iff, sharesWord_iff]

/-! ### TAKING (R46) -/

theorem exec_taking_of_canTake {s : State} {e : UrqEntry} (h : CanTake s e) :
    exec .taking s = .next (attemptTaking e s) := by
  obtain ⟨hhead, hopen, hstall, hhold⟩ := h
  show execTaking s = _
  simp [execTaking, hhead, hopen, hstall, hhold]

/-- Settles O23. -/
theorem takingPassThroughOrHeld : Obligations.TakingPassThroughOrHeld := by
  intro s
  refine ⟨fun a => ?_, fun w => ?_, spillOrderedHold_iff s, fun hstays => ?_, fun e hhead hopen hstall hhold => ?_,
    fun e hpass => ?_⟩
  · have hinside : ∀ w : Window, _ ↔ covers (descriptorOf s.windows.active w) a = true :=
      fun w => (covers_iff (descriptorOf s.windows.active w) a).symm
    refine ⟨?_, ?_, fun law w hw => ?_⟩
    · rw [classify_passThrough_iff]
      exact forall_congr' fun w => by
        rw [← Bool.not_eq_true]
        exact not_congr (hinside w).symm
    · rcases classify_cases s.windows a with hpass | ⟨w, hcovers, hstaged⟩
      · exact .inl hpass
      · exact .inr ⟨w, (hinside w).mpr hcovers, hstaged⟩
    · have hcovers := (hinside w).mp hw
      rcases classify_cases s.windows a with hpass | ⟨v, hcovers', hstaged⟩
      · exact absurd hcovers (by simp [(classify_passThrough_iff _ _).mp hpass w])
      · obtain rfl := window_of_covers law hcovers' hcovers
        exact hstaged
  · simp [runStateOf]
  · show execTaking s = _
    unfold execTaking
    rcases hstays with h | h | h
    · rw [h]
    · split
      · rfl
      · simp [h]
    · split
      · rfl
      · simp [h]
  · show execTaking s = _
    simp [execTaking, hhead, hopen, hstall, hhold, holdHead]
  · have htaken : attemptTaking e s = s.setUport
        (portAfterTaking s.uport e.serial
          (fun x => { x with phase := .forwarded, classification := some .passThrough, snapshot := none })
          [{ origin := (match e.request.payload with | .read => .read e.serial | .write _ => .write e.serial)
             request := e.request }]) := by
      simp only [attemptTaking, hpass, takePassThrough]
      cases e.request.payload with
      | read => rfl
      | write ws => rfl
    exact ⟨htaken, fun hcan => (exec_taking_of_canTake hcan).trans (congrArg _ htaken)⟩

/-! ### A staged WRITE (R7, R8, R51 to R55) -/

theorem attemptTaking_write {s : State} {e : UrqEntry} {ws : List Lanes} {w : Window} {p : Policy} {v : View}
    {run : RunState} (hwrite : e.request.payload = .write ws)
    (hstaged : classify s.windows e.request.addr = .staged w p v run) :
    attemptTaking e s = takeStagedWrite e w p v run s := by
  simp only [attemptTaking, hstaged, hwrite]

theorem attemptTaking_read {s : State} {e : UrqEntry} {w : Window} {p : Policy} {v : View} {run : RunState}
    (hread : e.request.payload = .read) (hstaged : classify s.windows e.request.addr = .staged w p v run) :
    attemptTaking e s = takeStagedRead e w p v run s := by
  simp only [attemptTaking, hstaged, hread]

/-- Where a write is not stageable, a word remains that has no open entry. -/
theorem remainingWords_ne_nil {st : Store} {r : Request} (h : freeSlots st < need st r) : remainingWords r st ≠ [] := by
  intro hnil
  have hneed : need st r = (remainingWords r st).length := List.countP_eq_length_filter
  rw [hneed, hnil] at h
  exact absurd h (Nat.not_lt_zero _)

theorem spillHead_of_remaining {e : UrqEntry} {s : State} (c : Classification) (h : remainingWords e.request s.store ≠ []) :
    spillHead e c s =
      forwardAtTaking e.serial c none
        { origin := .spill e.serial, request := spillRequest e.request (remainingWords e.request s.store) }
        (s.setStore (coalesceOnly e.request (frameStamp s) s.store)) := by
  simp [spillHead, h]

theorem spillHead_of_none {e : UrqEntry} {s : State} (c : Classification) (h : remainingWords e.request s.store = []) :
    spillHead e c s =
      answerAtTaking e.serial c none (.ok []) (s.setStore (coalesceOnly e.request (frameStamp s) s.store)) := by
  simp [spillHead, h]

/-- Settles O24. -/
theorem takingStagedWrite : Obligations.TakingStagedWrite := by
  intro s e ws w p v run hwrite hstaged
  have hattempt := attemptTaking_write hwrite hstaged
  have gives : ∀ {t : State}, takeStagedWrite e w p v run s = t →
      attemptTaking e s = t ∧ (CanTake s e → exec .taking s = .next t) := by
    rintro t rfl
    exact ⟨hattempt, fun hcan => by rw [exec_taking_of_canTake hcan, hattempt]⟩
  have unstageable (hrun : run = .normal) (hneed : freeSlots s.store < need s.store e.request) :
      takeStagedWrite e w p v run s = notStageable e (.staged w p v run) p s := by
    subst hrun
    simp [takeStagedWrite, Nat.not_le_of_lt hneed]
  refine ⟨fun hrun => ?_, fun hrun hneed => ?_, fun hrun hneed => ⟨fun hpolicy hstall => ?_, fun hpolicy timer hstall => ?_,
    fun hpolicy => ?_, fun hpolicy => ?_⟩, fun hnone => ?_⟩
  · subst hrun
    exact gives (by simp only [takeStagedWrite, refuseWrite, answerAtTaking, portAfterTaking, List.append_nil])
  · subst hrun
    exact gives (by
      simp only [takeStagedWrite, if_pos hneed, answerAtTaking, portAfterTaking, List.append_nil]
      rfl)
  · refine gives ?_
    rw [unstageable hrun hneed, hpolicy]
    show stallHead s = _
    simp [stallHead, hstall, Config.ticksPerUnit]
  · rw [hattempt, unstageable hrun hneed, hpolicy]
    exact stallHead_of_running s timer hstall
  · refine gives ?_
    rw [unstageable hrun hneed, hpolicy]
    simp only [notStageable, refuseWrite, answerAtTaking, portAfterTaking, List.append_nil]
  · refine gives ?_
    rw [unstageable hrun hneed, hpolicy]
    show spillHead e _ s = _
    rw [spillHead_of_remaining _ (remainingWords_ne_nil hneed)]
    rfl
  · rw [spillHead_of_none _ hnone]
    simp only [answerAtTaking, portAfterTaking, List.append_nil]
    rfl

/-! ### A staged READ (R21, R58) -/

theorem allSupplied_map_some (data : List Byte) : allSupplied (data.map some) = some data := by
  induction data with
  | nil => rfl
  | cons b bs ih => simp [allSupplied, ih]

theorem allSupplied_of_mem_none {snap : List (Option Byte)} (h : none ∈ snap) : allSupplied snap = none := by
  induction snap with
  | nil => cases h
  | cons x xs ih =>
    cases x with
    | none => rfl
    | some b => simp [allSupplied, ih (by simpa using h)]

/-- A byte of a snapshot is the open one where the view is LATEST and there is one, else the sealed one. -/
theorem snapshotByte_eq (st : Store) (v : View) (a : Word) : snapshotByte st v a =
    if v = .latest then (openByte st a).or (sealedByte st a) else sealedByte st a := by
  cases v with
  | latest => cases h : openByte st a <;> simp [snapshotByte, h]
  | committed => simp [snapshotByte]

theorem snapshot_eq (st : Store) (v : View) (r : Request) : snapshot st v r = (rangeBytes r).map fun a =>
    if v = .latest then (openByte st a).or (sealedByte st a) else sealedByte st a :=
  List.map_congr_left fun a _ => snapshotByte_eq st v a

/-- Settles O28. -/
theorem takingStagedRead : Obligations.TakingStagedRead := by
  intro s e w p v run hread hstaged
  have hattempt := attemptTaking_read hread hstaged
  have gives : ∀ {t : State}, takeStagedRead e w p v run s = t →
      attemptTaking e s = t ∧ (CanTake s e → exec .taking s = .next t) := by
    rintro t rfl
    exact ⟨hattempt, fun hcan => by rw [exec_taking_of_canTake hcan, hattempt]⟩
  simp only [← snapshot_eq]
  refine ⟨fun data hdata => gives ?_, fun hnone => gives ?_⟩
  · have hsupplied : allSupplied (snapshot s.store v e.request) = some data := by
      rw [hdata, allSupplied_map_some]
    simp only [takeStagedRead, hsupplied, answerAtTaking, portAfterTaking, List.append_nil]
  · simp only [takeStagedRead, allSupplied_of_mem_none hnone, forwardAtTaking, portAfterTaking]

end Sys2Proof.Machine

/-! SUPPORT. The downstream commands: what the requesters offer, which is granted, and what the outcome of a downstream
request does at its origin, with the statements on them. -/

namespace Sys2Proof.Machine

/-! ### Grants (R49, R65, R73, R78 to R80) -/

theorem changeEntry_eq (p : Nat) (f : SealedEntry → SealedEntry) (es : List SealedEntry) :
    changeEntry p f es = es.map fun x => if x.entry.position = p then f x else x := by
  simp only [changeEntry, beq_iff_eq]

/-- The drain wins in urgent mode and while its share is not used up (R79, R80). -/
theorem drainWins_iff (s : State) : drainWins s = true ↔ s.drain.urgent = true ∨ s.dport.shareCounter < s.dport.drainShare := by
  simp [drainWins]

theorem takeHeldHead_of_held {s : State} {e : UrqEntry} (head : takingHead s.uport = some e)
    (held : s.uport.spillHeld = true) (free : spillOrderedHold s e = false) : takeHeldHead s = attemptTaking e s := by
  simp [takeHeldHead, head, held, free]

theorem takeHeldHead_of_notHeld {s : State} (h : takingHead s.uport = none ∨ s.uport.spillHeld = false ∨
    ∃ e, takingHead s.uport = some e ∧ spillOrderedHold s e = true) : takeHeldHead s = s := by
  rcases h with h | h | ⟨e, head, hold⟩
  · simp [takeHeldHead, h]
  · unfold takeHeldHead
    split
    · rfl
    · simp [h]
  · simp [takeHeldHead, head, hold]

theorem grantDrain_eq (t : Tag) (e : SealedEntry) (s : State) : grantDrain t e s =
    ((s.setDport
        { s.dport with
          inFlight := s.dport.inFlight ++
            [{ tag := t, origin := .drain e.entry.position, issueTime := s.now
               expiry := s.now + s.dport.dsTimeout * 16, orphan := false }]
          shareCounter := min (s.dport.shareCounter + 1) 15
          sent := s.dport.sent ++
            [{ tag := t, request :=
                { addr := e.entry.addr, len := .words 1, payload := .write [e.entry.lanes] } }] }).setStore
      { s.store with
        sealedGen := s.store.sealedGen.map fun g =>
          { g with
            entries := g.entries.map fun x =>
              if x.entry.position = e.entry.position then { x with drain := .inFlight } else x } }).setDrain
      { s.drain with
        cursor :=
          if s.drain.cursor = some e.entry.position then some (e.entry.position + 1) else s.drain.cursor } := by
  simp only [← changeEntry_eq]
  rfl

/-- Settles O31, by which of the two requesters waits. -/
theorem grantIssuesTheChosenRequest : Obligations.GrantIssuesTheChosenRequest := by
  intro s
  have hexec : exec .grant s = .next (arbitrate s) := rfl
  simp only [hexec, ← grantDrain_eq]
  refine ⟨fun t f ht hf he => ?_, fun t e ht hf he => ?_, fun t f e ht hf he => ?_, fun hnone => ?_,
    fun e => takeHeldHead_of_held, takeHeldHead_of_notHeld⟩
  · simp only [arbitrate, ht, hf, he]
    rfl
  · simp only [arbitrate, ht, hf, he]
  · simp only [arbitrate, ht, hf, he, drainWins_iff]
    rfl
  · rcases hnone with ht | ⟨hf, he⟩
    · simp only [arbitrate, ht]
    · cases ht : lowestFreeTag s.dport <;> simp only [arbitrate, ht, hf, he]

/-! ### Offers (R49, R64, R72, R82) -/

theorem hazardHeld_iff (st : Store) (f : Forward) : hazardHeld st f = true ↔
    isSpill f = true ∧ ∃ p ∈ carryingWords f.request, ∃ x ∈ sealedEntries st, x.entry.addr = p.1 := by
  simp only [hazardHeld, hasSealed, Bool.and_eq_true, List.any_eq_true, beq_iff_eq]

theorem passOffer_cons {s : State} {f : Forward} {rest : List Forward} (h : s.uport.issueOrder = f :: rest) :
    passOffer s = if hazardHeld s.store f then none else some f := by
  simp only [passOffer, h]

theorem tags_ascending : tags.Pairwise (· < ·) := by decide

theorem mem_tags (t : Tag) : t ∈ tags := by
  revert t
  decide

theorem lowestFreeTag_iff (d : DPort) (t : Tag) : lowestFreeTag d = some t ↔
    t ∉ tagsInUse d ∧ ∀ u, u < t → u ∈ tagsInUse d := by
  rw [lowestFreeTag, find?_eq_some_iff_least tags_ascending mem_tags, tagFree_iff]
  refine and_congr_right fun _ => forall₂_congr fun u _ => ?_
  rw [← Bool.not_eq_true, tagFree_iff, not_not]

theorem retryOffer_eq_none_iff (g : SealedGen) : retryOffer g = none ↔
    ∀ x ∈ g.entries, x.drain = .pending → x.retries = 0 := by
  simp [retryOffer, List.find?_eq_none]

/-- The retry offered has the lowest position of those due, the list standing in creation order. -/
theorem retryOffer_spec {g : SealedGen} (ordered : (g.entries.map fun e => e.entry.position).Pairwise (· < ·))
    {e : SealedEntry} (h : retryOffer g = some e) : e ∈ g.entries ∧ e.drain = .pending ∧ 0 < e.retries ∧
      ∀ x ∈ g.entries, x.drain = .pending → 0 < x.retries → e.entry.position ≤ x.entry.position := by
  obtain ⟨hdue, before, after, hsplit, hnot⟩ := List.find?_eq_some_iff_append.mp h
  simp only [Bool.and_eq_true, beq_iff_eq, decide_eq_true_eq] at hdue
  rw [hsplit] at ordered ⊢
  refine ⟨by simp, hdue.1, hdue.2, fun x hx hpending hretries => ?_⟩
  rw [List.map_append, List.map_cons, List.pairwise_append, List.pairwise_cons] at ordered
  rcases List.mem_append.mp hx with hbefore | hrest
  · exact absurd (hnot x hbefore) (by simp [hpending, hretries])
  · rcases List.mem_cons.mp hrest with rfl | hafter
    · exact le_refl _
    · exact Nat.le_of_lt (ordered.2.1.1 _ (List.mem_map_of_mem hafter))

theorem drainOffer_of_retry {s : State} {g : SealedGen} {e : SealedEntry} (hg : s.store.sealedGen = some g)
    (h : retryOffer g = some e) : drainOffer s = some e := by
  simp only [drainOffer, hg, h]

theorem drainOffer_of_cursor {s : State} {g : SealedGen} {c : Nat} (hg : s.store.sealedGen = some g)
    (hc : s.drain.cursor = some c) (h : retryOffer g = none) :
    drainOffer s = g.entries.find? fun e => e.entry.position == c && e.drain == .pending := by
  simp only [drainOffer, hg, h, cursorOffer, hc]

/-- With no retry due and nothing offered at the cursor, every entry has been issued (R64). -/
theorem inFlight_of_noOffer {g : SealedGen} {c : Nat} {d : DPort} (law : SealedLaw g c d) (hretry : retryOffer g = none)
    (hcursor : (g.entries.find? fun e => e.entry.position == c && e.drain == .pending) = none) :
    ∀ e ∈ g.entries, e.drain = .inFlight := by
  intro e he
  by_contra hne
  have hpending : e.drain = .pending := by
    cases hd : e.drain with
    | pending => rfl
    | inFlight => exact absurd hd hne
  have hzero := (retryOffer_eq_none_iff g).mp hretry e he hpending
  have habove := (law.neverIssued e he).mpr ⟨hpending, hzero⟩
  obtain ⟨x, hx, hposition⟩ := law.allAbove c (le_refl c) (habove.trans (law.inRange e he).2)
  have hxpending := ((law.neverIssued x hx).mp hposition.ge).1
  exact absurd (List.find?_eq_none.mp hcursor x hx) (by simp [hposition, hxpending])

/-- Settles O32. -/
theorem offersFollowTheirOrders : Obligations.OffersFollowTheirOrders := by
  intro s
  refine ⟨fun hnil => by simp only [passOffer, hnil], fun f rest hcons => ⟨fun hheld => ?_, fun hfree => ?_⟩,
    lowestFreeTag_iff s.dport, fun hnone => by simp only [drainOffer, hnone], fun law g c hg hc => ?_⟩
  · rw [passOffer_cons hcons, if_pos ((hazardHeld_iff _ _).mpr hheld)]
  · rw [passOffer_cons hcons, if_neg fun h => hfree ((hazardHeld_iff _ _).mp h)]
  · obtain ⟨c', hc', hlaw⟩ := law.present g hg
    obtain rfl : c' = c := Option.some.inj (hc'.symm.trans hc)
    cases hretry : retryOffer g with
    | some x =>
      obtain ⟨hx, hpending, hretries, hleast⟩ := retryOffer_spec hlaw.ordered hretry
      rw [drainOffer_of_retry hg hretry]
      refine ⟨?_, fun h => by cases h⟩
      rintro e ⟨⟩
      exact ⟨hx, hpending, fun _ => ⟨hretries, hleast⟩, fun hnone => absurd (hnone x hx hpending) hretries.ne'⟩
    | none =>
      have hzero := (retryOffer_eq_none_iff g).mp hretry
      rw [drainOffer_of_cursor hg hc hretry]
      refine ⟨fun e he => ?_, inFlight_of_noOffer hlaw hretry⟩
      have hmem := List.mem_of_find?_eq_some he
      have hat := List.find?_some he
      simp only [Bool.and_eq_true, beq_iff_eq] at hat
      obtain ⟨hposition, hpending⟩ := hat
      exact ⟨hmem, hpending, fun ⟨x, hx, hxp, hxr⟩ => absurd (hzero x hx hxp) hxr.ne',
        fun _ => ⟨hposition, hzero e hmem hpending⟩⟩

/-! ### Responses (R74, R76, R85) -/

/-- A response to a member that is no orphan reaches its origin. -/
theorem exec_downstreamResponse_of_fits {s : State} {tag : Tag} {a : Answer} {m : InFlight}
    (hm : memberWithTag s.dport tag = some m) (horphan : m.orphan = false) (hfits : answerFits s.uport m a = true) :
    exec (.downstreamResponse tag a) s = .next (deliver m.origin a (removeMember tag s)) := by
  show execDownstreamResponse tag a s = _
  simp [execDownstreamResponse, hm, horphan, hfits]

/-- Only the OK data of a READ can fail to fit. -/
theorem answerFits_of_noRead {u : UPort} {m : InFlight} (a : Answer) (h : readEntry u m.origin = none) :
    answerFits u m a = true := by
  cases a with
  | error => rfl
  | ok data => simp [answerFits, h]

/-- What a URQ entry makes of a downstream outcome, with the snapshot's bytes before those of memory (R58). -/
theorem mergeSnapshot_eq (snap : List (Option Byte)) (data : List Byte) :
    mergeSnapshot snap data = List.zipWith (fun m d => m.getD d) snap data := by
  unfold mergeSnapshot
  congr 1
  funext m d
  cases m <;> rfl

theorem removeStale_of_notInUse {s : State} {tag : Tag} (h : tag ∉ s.dport.stale.map fun x => x.tag) :
    removeStale tag s = s := by
  have hkept : (s.dport.stale.filter fun x => x.tag != tag) = s.dport.stale := by
    rw [List.filter_eq_self]
    intro x hx
    simp only [bne_iff_ne, ne_eq]
    rintro rfl
    exact h (List.mem_map_of_mem hx)
  unfold removeStale
  rw [hkept]
  rfl

theorem exec_downstreamResponse_of_noMember {s : State} {tag : Tag} (a : Answer) (h : memberWithTag s.dport tag = none) :
    exec (.downstreamResponse tag a) s = .next (removeStale tag s) := by
  show execDownstreamResponse tag a s = _
  simp only [execDownstreamResponse, h]

/-- Settles O33. -/
theorem responseAnswersOrIsDiscarded : Obligations.ResponseAnswersOrIsDiscarded := by
  intro s tag a
  refine ⟨fun m n hm horphan horigin hfit => ?_, fun m n e data hm horphan horigin he ha hlength => ?_,
    fun m n hm horphan horigin => ?_, fun m hm horphan => ?_, exec_downstreamResponse_of_noMember a, fun hfree => ?_,
    fun _ => rfl, fun x ws data hwrite => ?_, fun x data hread hsnap => ?_, fun x data snap hread hsnap => ?_⟩
  · have hfits : answerFits s.uport m a = true := by
      cases ha : a with
      | error => rfl
      | ok data =>
        cases he : s.uport.urq.find? (fun x => x.serial == n) with
        | none => simp [answerFits, readEntry, horigin, he]
        | some e => simp [answerFits, readEntry, horigin, he, hfit e data he ha]
    rw [exec_downstreamResponse_of_fits hm horphan hfits, horigin]
    rfl
  · subst ha
    have hread : readEntry s.uport m.origin = some e := by rw [horigin]; exact he
    have hfits : answerFits s.uport m (.ok data) = false := by simp [answerFits, hread, hlength]
    refine ⟨(List.range e.request.len.bytes).map (Config.freeByte s.drawn), by simp, ?_⟩
    have hfree : freeData s.drawn s.uport m =
        .ok ((List.range e.request.len.bytes).map (Config.freeByte s.drawn)) := by
      simp only [freeData, hread]
    show execDownstreamResponse tag (.ok data) s = _
    simp only [execDownstreamResponse, hm, horphan, hfits, hfree, horigin]
    rfl
  · have hfits : answerFits s.uport m a = true :=
      answerFits_of_noRead a (by rcases horigin with h | h <;> rw [h] <;> rfl)
    rw [exec_downstreamResponse_of_fits hm horphan hfits]
    rcases horigin with h | h <;> rw [h] <;> rfl
  · show execDownstreamResponse tag a s = _
    simp [execDownstreamResponse, hm, horphan, removeMember]
  · simp only [tagsInUse, List.mem_append, not_or] at hfree
    have hnone : memberWithTag s.dport tag = none := by
      rw [memberWithTag, List.find?_eq_none]
      intro m hm htag
      exact hfree.1 (List.mem_map.mpr ⟨m, hm, by simpa using htag⟩)
    rw [exec_downstreamResponse_of_noMember a hnone, removeStale_of_notInUse hfree.2]
  · simp only [upstreamAnswer, hwrite]
  · simp only [upstreamAnswer, hread, hsnap]
  · simp only [upstreamAnswer, hread, hsnap, mergeSnapshot_eq]

/-! ### The outcome of a drain write (R13, R66, R67) -/

theorem retireIfDrained_of_some {s : State} {g : SealedGen} (hg : s.store.sealedGen = some g) :
    retireIfDrained s = if g.entries = [] then retire g s else s := by
  simp only [retireIfDrained, hg, List.isEmpty_iff]

theorem reportFreedSlots_of_stall {s : State} {due : StallTimer} {e : UrqEntry} (hstall : s.uport.stall = some due)
    (head : takingHead s.uport = some e) : reportFreedSlots s = attemptTaking e s := by
  simp only [reportFreedSlots, hstall, head]

/-- A freeing that leaves an entry in its slot leaves the generation. -/
theorem afterFreeing_of_left {s : State} {g : SealedGen} (hg : s.store.sealedGen = some g) (left : g.entries ≠ []) :
    retireIfDrained (reportFreedSlots s) = reportFreedSlots s := by
  rw [retireIfDrained_of_some (by simpa using hg), if_neg left]

/-- A freeing of the last slot retires the generation. -/
theorem afterFreeing_of_drained {s : State} {g : SealedGen} (hg : s.store.sealedGen = some g) (drained : g.entries = []) :
    retireIfDrained (reportFreedSlots s) = retire g (reportFreedSlots s) := by
  rw [retireIfDrained_of_some (by simpa using hg), if_pos drained]

/-- Settles O34. -/
theorem drainWriteAnsweredOk : Obligations.DrainWriteAnsweredOk := by
  intro s tag data m g e hm horphan horigin hg he
  have hfits : answerFits s.uport m (.ok data) = true :=
    answerFits_of_noRead _ (by rw [horigin]; rfl)
  have hexec : exec (.downstreamResponse tag (.ok data)) s =
      .next (retireIfDrained (reportFreedSlots (doneStore e.entry.position g (removeMember tag s)))) := by
    rw [exec_downstreamResponse_of_fits hm horphan hfits, horigin]
    exact congrArg _ (drainDone_eq hg he)
  have hgen : (doneStore e.entry.position g (removeMember tag s)).store.sealedGen =
      some { g with entries := withoutEntry g.entries e.entry.position, doneCount := g.doneCount + 1 } := rfl
  exact ⟨fun left => hexec.trans (congrArg _ (afterFreeing_of_left hgen left)),
    fun drained => hexec.trans (congrArg _ (afterFreeing_of_drained hgen drained)),
    fun hstall => reportFreedSlots_of_no_stall hstall, fun due x hstall head => reportFreedSlots_of_stall hstall head⟩

/-- Settles O35. -/
theorem drainWriteFailed : Obligations.DrainWriteFailed := by
  refine ⟨fun s tag m p hm horphan horigin => ?_, fun s g e hg he => ⟨fun hretry => ?_, fun hdrop hleft => ?_,
    fun hdrop hnone => ?_⟩⟩
  · rw [exec_downstreamResponse_of_fits hm horphan rfl, horigin]
    rfl
  · simp only [drainFailed, hg, he, if_pos hretry, changeEntry_eq]
    rfl
  · simp only [drainFailed, hg, he, if_neg (Nat.not_lt_of_le hdrop), drainDropped_eq]
    exact afterFreeing_of_left (s := droppedState g e s) rfl hleft
  · simp only [drainFailed, hg, he, if_neg (Nat.not_lt_of_le hdrop), drainDropped_eq]
    exact afterFreeing_of_drained (s := droppedState g e s) rfl hnone

/-! ### Timeouts and retirement (R70, R75, R76) -/

theorem expiredMember_of_due {s : State} {tag : Tag} {m : InFlight} (hm : memberWithTag s.dport tag = some m)
    (hdue : m.expiry ≤ s.now) : expiredMember s tag = some m := by
  simp [expiredMember, hm, hdue]

theorem exec_timeout_of_none {s : State} {tag : Tag} (h : expiredMember s tag = none) :
    exec (.downstreamTimeoutExpiry tag) s = .next s := by
  show execDownstreamTimeoutExpiry tag s = _
  simp only [execDownstreamTimeoutExpiry, h]

/-- Settles O36. -/
theorem downstreamTimeoutExpiry : Obligations.DownstreamTimeoutExpiry := by
  intro s tag
  have hexec : ∀ {m : InFlight}, memberWithTag s.dport tag = some m → m.expiry ≤ s.now →
      exec (.downstreamTimeoutExpiry tag) s =
        .next (if m.orphan then timedOut tag s else deliver m.origin .error (timedOut tag s)) :=
    fun hm hdue => execDownstreamTimeoutExpiry_of_member (expiredMember_of_due hm hdue)
  refine ⟨fun m hm hdue horphan => ?_, fun m n hm hdue horphan horigin => ?_, fun m p hm hdue horphan horigin => ?_,
    fun hnone => exec_timeout_of_none (by simp [expiredMember, hnone]),
    fun m hm hlater => exec_timeout_of_none (by simp [expiredMember, hm, hlater])⟩
  · rw [hexec hm hdue, horphan]
    rfl
  · rw [hexec hm hdue, horphan]
    rcases horigin with h | h | h <;> rw [h] <;> rfl
  · rw [hexec hm hdue, horphan, horigin]
    rfl

/-- Settles O38. -/
theorem retirementEndsTheGeneration : Obligations.RetirementEndsTheGeneration := by
  refine ⟨fun s g => rfl, fun s => ⟨fun hclosed hsrstn hnone => ?_, fun hstays => ?_⟩⟩
  · simp [reopenPort, hclosed, hsrstn, hnone]
  · unfold reopenPort
    refine if_neg ?_
    rcases hstays with h | h | h <;> simp [h]

end Sys2Proof.Machine

/-! SUPPORT. Seals, applies and permission: what each does by its cases, with the statements on them, and that none of them
takes a cause out of the cause set. -/

namespace Sys2Proof.Machine

/-! ### Seals (R10, R124) -/

@[simp] theorem applyArmed_setStore (s : State) (x : Store) : applyArmed (s.setStore x) = applyArmed s := rfl
@[simp] theorem applyArmed_setDrain (s : State) (x : DrainEngine) : applyArmed (s.setDrain x) = applyArmed s := rfl

/-- The state after the store and drain steps of a seal. -/
def sealedState (cause : SealCause) (stamp : Stamp) (s : State) (b : OpenBody) : State :=
  (s.setStore { openNumber := s.store.openNumber + 1#32, openBody := none,
                sealedGen := some (sealedFrom cause stamp s b) }).setDrain { cursor := some 1, urgent := false }

/-- With no apply armed a seal clears both flags. -/
theorem takeSeal_of_idle {cause : SealCause} {stamp : Stamp} {s : State} {b : OpenBody} (hb : s.store.openBody = some b)
    (idle : s.windows.applyState = .idle) : takeSeal cause stamp s =
      (sealedState cause stamp s b).setSealing { s.sealing with commitNow := false, owed := false } := by
  have harmed : applyArmed s = false := by simp [applyArmed, idle]
  simp [takeSeal, performSeal_of_body hb, harmed, clearSealFlags, sealedState]

/-- A COMMIT_NOW seal leaves an armed apply and the owed-seal flag. -/
theorem takeSeal_commitNow_of_armed {stamp : Stamp} {s : State} {b : OpenBody} (hb : s.store.openBody = some b)
    (armed : s.windows.applyState = .armed) : takeSeal .commitNow stamp s =
      (sealedState .commitNow stamp s b).setSealing { s.sealing with commitNow := false } := by
  have harmed := (applyArmed_iff s).mpr armed
  simp [takeSeal, performSeal_of_body hb, harmed, clearSealFlags, sealedState]

/-- Any other seal carries an armed apply with it. -/
theorem takeSeal_of_armed {cause : SealCause} {stamp : Stamp} {s : State} {b : OpenBody} (hb : s.store.openBody = some b)
    (armed : s.windows.applyState = .armed) (hcause : cause ≠ .commitNow) : takeSeal cause stamp s =
      (performApply (sealedState cause stamp s b)).setSealing { s.sealing with commitNow := false, owed := false } := by
  have harmed := (applyArmed_iff s).mpr armed
  simp [takeSeal, performSeal_of_body hb, harmed, clearSealFlags, sealedState, hcause]

/-- Settles O40. -/
theorem sealOfTheOpenGeneration : Obligations.SealOfTheOpenGeneration := by
  intro cause stamp s b hb
  refine ⟨fun idle => takeSeal_of_idle hb idle, ?_, fun armed hcause => takeSeal_of_armed hb armed hcause⟩
  rintro armed rfl
  exact takeSeal_commitNow_of_armed hb armed

/-! ### The apply (R34 to R36) -/

/-- Settles O41: what fails is a window that breaks the limit or shares an address with another. -/
theorem applyValidatesTheShadowTable : Obligations.ApplyValidatesTheShadowTable := by
  refine ⟨fun table w => ?_, fun s => ⟨fun hnone => ?_, fun w hw => ?_⟩⟩
  · have hfails : ∀ v : Window, windowFails table v = true ↔
        breaksLimit (descriptorOf table v) = true ∨
          ∃ u, v ≠ u ∧ overlaps (descriptorOf table v) (descriptorOf table u) = true := by
      intro v
      simp only [windowFails_iff, ne_comm]
    simp only [breaksLimit_iff, overlaps_iff] at hfails
    refine ⟨?_, breaksLimit_iff _⟩
    rw [failingWindow_iff, hfails]
    refine and_congr Iff.rfl (forall₂_congr fun v _ => ?_)
    rw [← Bool.not_eq_true, hfails, not_or, not_exists]
    rfl
  · simp only [performApply, hnone]
  · simp only [performApply, hw]

/-! ### Permission (R118, R123, R127, R129, R131) -/

theorem gateOpen_iff (s : State) : gateOpen s = true ↔ s.tracker.gate = .any ∨ s.tracker.state = .locked ∨
    (s.tracker.gate = .lockedOrHoldover ∧ s.tracker.state = .holdover) := by
  unfold gateOpen
  cases s.tracker.gate <;> cases s.tracker.state <;> simp [gateOpenIn]

theorem openEmpty_iff (st : Store) : openEmpty st = true ↔ openEntries st = [] := by
  simp [openEmpty]

theorem openEmpty_eq_false_iff (st : Store) : openEmpty st = false ↔ openEntries st ≠ [] := by
  rw [← Bool.not_eq_true, openEmpty_iff]

/-- A point with nothing to seal: an armed apply, and the owed-seal flag cleared (R125, R127). -/
theorem takeEmptyPoint_of_armed {s : State} (armed : s.windows.applyState = .armed) :
    takeEmptyPoint s = (performApply s).setSealing { s.sealing with owed := false } := by
  simp [takeEmptyPoint, (applyArmed_iff s).mpr armed, clearOwed]

theorem takeEmptyPoint_of_idle {s : State} (idle : s.windows.applyState = .idle) :
    takeEmptyPoint s = s.setSealing { s.sealing with owed := false } := by
  simp [takeEmptyPoint, applyArmed, idle, clearOwed]

/-- Settles O42. -/
theorem permissionReturnTakesWhatWaits : Obligations.PermissionReturnTakesWhatWaits := by
  intro s
  refine ⟨commandPermission_iff s, framePermission_iff s, gateOpen_iff s, rfl, fun hstays => ?_,
    fun hlate howed hpermission => ?_, fun hstays => ?_, fun hflag hpermission => ?_⟩
  · unfold returnOwed
    refine if_neg ?_
    rcases hstays with h | h | h <;> simp [h]
  · have howes : returnOwed s = takeOwedSeal s := by simp [returnOwed, hlate, howed, hpermission]
    rw [howes, takeOwedSeal]
    refine ⟨fun hopen => ?_, fun hempty armed => ?_, fun hempty idle => ?_⟩
    · rw [(openEmpty_eq_false_iff _).mpr hopen]
      rfl
    · rw [if_pos ((openEmpty_iff _).mpr hempty), takeEmptyPoint_of_armed armed]
    · rw [if_pos ((openEmpty_iff _).mpr hempty), takeEmptyPoint_of_idle idle]
  · unfold returnCommitNow
    refine if_neg ?_
    rcases hstays with h | h <;> simp [h]
  · have htakes : returnCommitNow s = takeCommitNow s := by simp [returnCommitNow, hflag, hpermission]
    rw [htakes, takeCommitNow]
    refine ⟨fun hopen => ?_, fun hempty => ?_⟩
    · rw [(openEmpty_eq_false_iff _).mpr hopen]
      rfl
    · rw [if_pos ((openEmpty_iff _).mpr hempty)]

/-! ### Seal points (R91, R125) -/

theorem offerSealPoint_of_open {s : State} (cause : SealCause) (stamp : Stamp) (hpermission : framePermission s = true)
    (hopen : openEntries s.store ≠ []) : offerSealPoint cause stamp s = takeSeal cause stamp s := by
  simp [offerSealPoint, hpermission, (openEmpty_eq_false_iff _).mpr hopen]

theorem offerSealPoint_of_empty {s : State} (cause : SealCause) (stamp : Stamp) (hpermission : framePermission s = true)
    (hempty : openEntries s.store = []) : offerSealPoint cause stamp s = takeEmptyPoint s := by
  simp [offerSealPoint, hpermission, (openEmpty_iff _).mpr hempty]

theorem offerSealPoint_of_armed {s : State} (cause : SealCause) (stamp : Stamp) (hpermission : framePermission s = true)
    (hempty : openEntries s.store = []) (armed : s.windows.applyState = .armed) :
    offerSealPoint cause stamp s = (performApply s).setSealing { s.sealing with owed := false } :=
  (offerSealPoint_of_empty cause stamp hpermission hempty).trans (takeEmptyPoint_of_armed armed)

theorem offerSealPoint_of_idle {s : State} (cause : SealCause) (stamp : Stamp) (hpermission : framePermission s = true)
    (hempty : openEntries s.store = []) (idle : s.windows.applyState = .idle) :
    offerSealPoint cause stamp s = s.setSealing { s.sealing with owed := false } :=
  (offerSealPoint_of_empty cause stamp hpermission hempty).trans (takeEmptyPoint_of_idle idle)

theorem offerSealPoint_of_free {s : State} (cause : SealCause) (stamp : Stamp) (hrefused : framePermission s = false)
    (hfree : s.store.sealedGen = none) : offerSealPoint cause stamp s = refusedPoint s := by
  simp [offerSealPoint, hrefused, refuseSealPoint_eq, hfree]

theorem offerSealPoint_of_draining {s : State} (cause : SealCause) (stamp : Stamp) (hrefused : framePermission s = false)
    (hgen : s.store.sealedGen ≠ none) : offerSealPoint cause stamp s = raiseCause .overrun (refusedPoint s) := by
  simp [offerSealPoint, hrefused, refuseSealPoint_eq, Option.isSome_iff_ne_none.mpr hgen]

theorem sealPointDue_iff (s : State) : sealPointDue s = true ↔
    s.timer.offered = false ∧ s.timer.phase = s.timer.active.sealPhase := by
  simp [sealPointDue]

/-- Settles O43. -/
theorem sealPointIsTakenOrRefused : Obligations.SealPointIsTakenOrRefused := by
  intro s
  refine ⟨fun cause stamp => ⟨offerSealPoint_of_open cause stamp, offerSealPoint_of_armed cause stamp,
    offerSealPoint_of_idle cause stamp, offerSealPoint_of_free cause stamp, offerSealPoint_of_draining cause stamp⟩,
    fun hstays => ?_, fun hoffered hphase => ?_⟩
  · have hnot : ¬sealPointDue s = true := by
      rw [sealPointDue_iff]
      rintro ⟨hoffered, hphase⟩
      rcases hstays with h | h
      · exact absurd (h.symm.trans hoffered) (by simp)
      · exact h hphase
    show execSealPoint s = _
    unfold execSealPoint
    rw [if_neg hnot]
  · have hexec : exec .sealPoint s =
        .next ((offerSealPoint .sealPoint (frameStamp s) s).setTimer { s.timer with offered := true }) := by
      show execSealPoint s = _
      unfold execSealPoint
      rw [if_pos ((sealPointDue_iff s).mpr ⟨hoffered, hphase⟩)]
    have hgives : ∀ {t : State}, offerSealPoint .sealPoint (frameStamp s) s = t →
        exec .sealPoint s = .next (t.setTimer { s.timer with offered := true }) := by
      rintro t rfl
      exact hexec
    exact ⟨fun hp ho => hgives (offerSealPoint_of_open _ _ hp ho), fun hp he ha => hgives (offerSealPoint_of_armed _ _ hp he ha),
      fun hp he hi => hgives (offerSealPoint_of_idle _ _ hp he hi), fun hr hf => hgives (offerSealPoint_of_free _ _ hr hf),
      fun hr hg => hgives (offerSealPoint_of_draining _ _ hr hg)⟩

end Sys2Proof.Machine

/-! SUPPORT. The cause set over a boundary and a tracker change, and what a frame boundary does, with its statement. -/

namespace Sys2Proof.Machine

/-! ### The cause set only grows but by ACK_ATTN (R156) -/

/-- Every cause of the first state is one of the second. -/
def CausesGrow (s t : State) : Prop :=
  ∀ c, inCauseSet s.attention.causes c = true → inCauseSet t.attention.causes c = true

theorem CausesGrow.of_eq {s t : State} (h : t.attention = s.attention) : CausesGrow s t := by
  intro c hc
  rwa [h]

theorem CausesGrow.trans {s t u : State} (first : CausesGrow s t) (second : CausesGrow t u) : CausesGrow s u :=
  fun c hc => second c (first c hc)

theorem causesGrow_raiseCause (c : Cause) (s : State) : CausesGrow s (raiseCause c s) := by
  intro d hd
  simp [raiseCause_eq, hd]

theorem inCauseSet_raiseCause (c : Cause) (s : State) : inCauseSet (raiseCause c s).attention.causes c = true := by
  simp [raiseCause_eq]

theorem causesGrow_raiseAll (cs : List Cause) (s : State) : CausesGrow s (raiseAll cs s) := by
  induction cs generalizing s with
  | nil => exact .of_eq rfl
  | cons c cs ih => exact (causesGrow_raiseCause c s).trans (ih (raiseCause c s))

theorem inCauseSet_raiseAll {c : Cause} {cs : List Cause} (h : c ∈ cs) (s : State) :
    inCauseSet (raiseAll cs s).attention.causes c = true := by
  induction cs generalizing s with
  | nil => cases h
  | cons d ds ih =>
    rcases List.mem_cons.mp h with rfl | htail
    · exact causesGrow_raiseAll ds _ c (inCauseSet_raiseCause c s)
    · exact ih htail (raiseCause d s)

theorem causesGrow_performApply (s : State) : CausesGrow s (performApply s) := by
  unfold performApply
  split
  · exact causesGrow_raiseCause .tableApplied (s.setWindows _)
  · exact causesGrow_raiseCause .tableRefused (s.setWindows _)

theorem causesGrow_clearSealFlags (cause : SealCause) (s : State) : CausesGrow s (clearSealFlags cause s) := .of_eq rfl

theorem causesGrow_clearOwed (s : State) : CausesGrow s (clearOwed s) := .of_eq rfl

theorem causesGrow_takeSeal (cause : SealCause) (stamp : Stamp) (s : State) : CausesGrow s (takeSeal cause stamp s) := by
  have hsealed : CausesGrow s (performSeal cause stamp s) := .of_eq (by simp)
  unfold takeSeal
  dsimp only
  refine CausesGrow.trans ?_ (causesGrow_clearSealFlags cause _)
  split
  · exact hsealed.trans (causesGrow_performApply _)
  · exact hsealed

theorem causesGrow_takeEmptyPoint (s : State) : CausesGrow s (takeEmptyPoint s) := by
  unfold takeEmptyPoint
  refine CausesGrow.trans ?_ (causesGrow_clearOwed _)
  split
  · exact causesGrow_performApply s
  · exact .of_eq rfl

theorem causesGrow_refuseSealPoint (s : State) : CausesGrow s (refuseSealPoint s) := by
  rw [refuseSealPoint_eq]
  split
  · exact causesGrow_raiseCause .overrun (refusedPoint s)
  · exact .of_eq rfl

theorem causesGrow_offerSealPoint (cause : SealCause) (stamp : Stamp) (s : State) :
    CausesGrow s (offerSealPoint cause stamp s) := by
  unfold offerSealPoint
  split
  · split
    · exact causesGrow_takeEmptyPoint s
    · exact causesGrow_takeSeal cause stamp s
  · exact causesGrow_refuseSealPoint s

theorem causesGrow_returnOwed (s : State) : CausesGrow s (returnOwed s) := by
  unfold returnOwed takeOwedSeal
  split
  · split
    · exact causesGrow_takeEmptyPoint s
    · exact causesGrow_takeSeal _ _ s
  · exact .of_eq rfl

theorem causesGrow_returnCommitNow (s : State) : CausesGrow s (returnCommitNow s) := by
  unfold returnCommitNow takeCommitNow
  split
  · split
    · exact .of_eq rfl
    · exact causesGrow_takeSeal _ _ s
  · exact .of_eq rfl

theorem causesGrow_permissionReturn (s : State) : CausesGrow s (permissionReturn s) :=
  (causesGrow_returnOwed s).trans (causesGrow_returnCommitNow _)

theorem causesGrow_expireHold (s : State) : CausesGrow s (expireHold s) := by
  have hraised : CausesGrow s
      (raiseCause .holdExpired (s.setSealing { s.sealing with hold := .notHeld, expired := true })) :=
    causesGrow_raiseCause .holdExpired (s.setSealing _)
  exact hraised.trans (causesGrow_permissionReturn _)

theorem causesGrow_reportBoundary (s : State) : CausesGrow s (reportBoundary s) := by
  unfold reportBoundary
  split
  · dsimp only
    split
    · refine CausesGrow.trans ?_ (causesGrow_expireHold _)
      exact .of_eq rfl
    · exact .of_eq rfl
  · exact .of_eq rfl

theorem causesGrow_earlySealPoint (s : State) : CausesGrow s (earlySealPoint s) := by
  unfold earlySealPoint
  split
  · exact (causesGrow_offerSealPoint .sealPoint (frameStamp s) s).trans (.of_eq rfl)
  · exact .of_eq rfl

/-! ### Tracker changes (R108) -/

theorem changeTracker_eq (t : Tracker) (cs : List Cause) (b : State) : changeTracker t cs b = trackerChanged b t cs := by
  unfold changeTracker trackerChanged raiseAll
  simp only [Bool.and_eq_true, Bool.not_eq_true']

/-- The causes of a tracker change are in the set after it, also after a permission-return moment. -/
theorem inCauseSet_changeTracker {c : Cause} {cs : List Cause} (h : c ∈ cs) (t : Tracker) (b : State) :
    inCauseSet (changeTracker t cs b).attention.causes c = true := by
  have hraised := inCauseSet_raiseAll h (b.setTracker t)
  unfold changeTracker
  dsimp only
  split
  · exact causesGrow_permissionReturn _ c hraised
  · exact hraised

/-! ### The steps of a boundary (R87) -/

theorem timingValid_iff (t : Timing) (en : Bool) (tol : Nat) : timingValid t en tol = true ↔
    256 ≤ t.period ∧ t.period ≤ 16777215 ∧ t.sealPhase < t.period ∧ 1 ≤ t.deadline ∧ t.deadline ≤ t.period ∧
      (en = true → 2 * tol < t.period) := by
  cases en <;> simp [timingValid, and_assoc]

theorem transferCheck_of_same {s : State} (h : s.timer.shadow = s.timer.active) : transferCheck s = s := by
  simp [transferCheck, h]

theorem transferCheck_of_valid {s : State} (differs : s.timer.shadow ≠ s.timer.active)
    (valid : timingValid s.timer.shadow s.tracker.trackEn s.tracker.tolWide = true) :
    transferCheck s = s.setTimer { s.timer with active := s.timer.shadow, refusalMark := false } := by
  simp [transferCheck, differs, valid]

/-- A set that stays invalid is refused once. -/
theorem transferCheck_of_refused {s : State} (differs : s.timer.shadow ≠ s.timer.active)
    (invalid : ¬timingValid s.timer.shadow s.tracker.trackEn s.tracker.tolWide = true)
    (marked : s.timer.refusalMark = true) : transferCheck s = s := by
  simp [transferCheck, differs, invalid, marked]

theorem transferCheck_of_invalid {s : State} (differs : s.timer.shadow ≠ s.timer.active)
    (invalid : ¬timingValid s.timer.shadow s.tracker.trackEn s.tracker.tolWide = true)
    (unmarked : s.timer.refusalMark = false) :
    transferCheck s = raiseCause .timingRefused (s.setTimer { s.timer with refusalMark := true }) := by
  simp [transferCheck, differs, invalid, unmarked]

theorem reportBoundary_of_counting {s : State} (held : s.sealing.hold = .held)
    (below : s.sealing.holdCount + 1 < s.sealing.holdLimit) :
    reportBoundary s = s.setSealing { s.sealing with holdCount := s.sealing.holdCount + 1 } := by
  simp [reportBoundary, held, Nat.not_le_of_lt below]

theorem reportBoundary_of_expired {s : State} (held : s.sealing.hold = .held)
    (reached : s.sealing.holdLimit ≤ s.sealing.holdCount + 1) :
    reportBoundary s = permissionReturn (raiseCause .holdExpired
      (s.setSealing { s.sealing with hold := .notHeld, holdCount := s.sealing.holdCount + 1, expired := true })) := by
  simp only [reportBoundary, held, if_true, if_pos reached]
  rfl

/-! ### The timer and the cause set after a boundary -/

@[simp] theorem reportBoundary_timer (s : State) : (reportBoundary s).timer = s.timer := by simp

theorem earlySealPoint_timer (s : State) : (earlySealPoint s).timer =
    { s.timer with offered := s.timer.offered || s.timer.active.sealPhase == 0 } := by
  unfold earlySealPoint
  split
  · next h => simp [h]
  · next h =>
    have hlate : (s.timer.active.sealPhase == 0) = false := by simpa using h
    rw [hlate, Bool.or_false]

theorem transferCheck_offered (s : State) : (transferCheck s).timer.offered = s.timer.offered := by
  unfold transferCheck
  (repeat' split) <;> simp

theorem transferCheck_frame (s : State) : (transferCheck s).timer.frame = s.timer.frame := by
  unfold transferCheck
  (repeat' split) <;> simp

theorem transferCheck_shadow (s : State) : (transferCheck s).timer.shadow = s.timer.shadow := by
  unfold transferCheck
  (repeat' split) <;> simp

/-- The state on which step 3 of a boundary is carried out. -/
def atTransfer (s : State) : State :=
  newFrame (lateSealPoint s)

theorem atTransfer_timer (s : State) : (atTransfer s).timer =
    { s.timer with frame := s.timer.frame + 1#32, phase := 0, offered := false } := by
  simp [atTransfer, newFrame]

@[simp] theorem atTransfer_tracker (s : State) : (atTransfer s).tracker = s.tracker := by
  simp [atTransfer]

/-- After a boundary the timer is that of the transfer check, with the flag set where SEAL_PHASE is 0. -/
theorem takeBoundary_timer (s : State) : (takeBoundary s).timer =
    { (transferCheck (atTransfer s)).timer with
      offered := (transferCheck (atTransfer s)).timer.active.sealPhase == 0 } := by
  have hoffered : (transferCheck (atTransfer s)).timer.offered = false := by
    rw [transferCheck_offered, atTransfer_timer]
  show (earlySealPoint (reportBoundary (transferCheck (atTransfer s)))).timer = _
  rw [earlySealPoint_timer, reportBoundary_timer, hoffered, Bool.false_or]

theorem causesGrow_afterTransfer (s : State) : CausesGrow (transferCheck (atTransfer s)) (takeBoundary s) :=
  (causesGrow_reportBoundary _).trans (causesGrow_earlySealPoint _)

/-- With nothing waiting on it a boundary changes the frame number, the phase and the flag only. -/
theorem takeBoundary_of_nothing {s : State} (offered : s.timer.offered = true) (same : s.timer.shadow = s.timer.active)
    (late : s.timer.active.sealPhase ≠ 0) (noHold : s.sealing.hold = .notHeld) :
    takeBoundary s = s.setTimer { s.timer with frame := s.timer.frame + 1#32, phase := 0, offered := false } := by
  have hlate : lateSealPoint s = s := by simp [lateSealPoint, offered]
  have htransfer : transferCheck (newFrame s) = newFrame s := transferCheck_of_same same
  have hreport : reportBoundary (newFrame s) = newFrame s := reportBoundary_of_notHeld noHold
  have hearly : earlySealPoint (newFrame s) = newFrame s := by
    unfold earlySealPoint
    exact if_neg late
  rw [takeBoundary, hlate, htransfer, hreport, hearly]
  rfl

/-! ### The boundary that the timer makes (R88, R108, R111, R115) -/

theorem boundaryDue_iff (s : State) : boundaryDue s = true ↔
    (s.tracker.state = .free ∨ s.tracker.state = .acquire) ∧ s.timer.active.period ≤ s.timer.phase ∨
      s.tracker.state = .holdover ∧ s.tracker.plast ≤ s.timer.phase := by
  unfold boundaryDue
  cases s.tracker.state <;> simp

theorem exec_frameBoundary_free {s : State} (due : boundaryDue s = true) (h : s.tracker.state = .free) :
    exec .frameBoundary s = .next (takeBoundary s) := by
  show execFrameBoundary s = _
  simp only [execFrameBoundary, due, if_true, h]

theorem exec_frameBoundary_acquire {s : State} (due : boundaryDue s = true) (h : s.tracker.state = .acquire) :
    exec .frameBoundary s = .next (dropPassedReference (takeBoundary s)) := by
  show execFrameBoundary s = _
  simp only [execFrameBoundary, due, if_true, h]

theorem exec_frameBoundary_holdover {s : State} (due : boundaryDue s = true) (h : s.tracker.state = .holdover) :
    exec .frameBoundary s = .next (endHoldoverFrame (takeBoundary s)) := by
  show execFrameBoundary s = _
  simp only [execFrameBoundary, due, if_true, h]

theorem dropPassedReference_of_passed {s : State} {r : Nat} (reference : s.tracker.reference = some r)
    (passed : r + s.timer.active.period + s.tracker.tolWide < s.now) :
    dropPassedReference s = s.setTracker { s.tracker with reference := none, goodCount := 0 } := by
  simp [dropPassedReference, reference, passed, missingInAcquire]

theorem dropPassedReference_of_ahead {s : State} (h : s.tracker.reference = none ∨
    ∃ r, s.tracker.reference = some r ∧ s.now ≤ r + s.timer.active.period + s.tracker.tolWide) :
    dropPassedReference s = s := by
  rcases h with h | ⟨r, href, ahead⟩
  · simp [dropPassedReference, h]
  · simp [dropPassedReference, href, Nat.not_lt_of_le ahead]

theorem endHoldoverFrame_of_more {s : State} (h : s.tracker.holdoverCount + 1 ≠ s.tracker.holdoverLimit) :
    endHoldoverFrame s = s.setTracker { s.tracker with holdoverCount := s.tracker.holdoverCount + 1 } := by
  simp [endHoldoverFrame, h]

theorem endHoldoverFrame_of_last {s : State} (h : s.tracker.holdoverCount + 1 = s.tracker.holdoverLimit) :
    endHoldoverFrame s = changeTracker
      { s.tracker with state := .acquire, goodCount := 0, lockCount := 0, holdoverCount := 0, reference := none }
      [.holdoverExhausted] s := by
  simp [endHoldoverFrame, h]

/-- What a tracker event after a boundary leaves as the boundary left it; the cause set only grows. -/
structure AfterBoundary (b t : State) : Prop where
  timer : t.timer = b.timer := by simp
  now : t.now = b.now := by simp
  srstn : t.srstn = b.srstn := by simp
  sync : t.sync = b.sync := by simp
  uport : t.uport = b.uport := by simp
  dport : t.dport = b.dport := by simp
  management : t.management = b.management := by simp
  ring : t.ring = b.ring := by simp
  causes : CausesGrow b t

theorem afterBoundary_refl (b : State) : AfterBoundary b b where
  causes := .of_eq rfl

theorem afterBoundary_setTracker (b : State) (t : Tracker) : AfterBoundary b (b.setTracker t) where
  causes := .of_eq rfl

theorem causesGrow_changeTracker (t : Tracker) (cs : List Cause) (b : State) : CausesGrow b (changeTracker t cs b) := by
  have hraised : CausesGrow b (raiseAll cs (b.setTracker t)) := causesGrow_raiseAll cs (b.setTracker t)
  unfold changeTracker
  dsimp only
  split
  · exact hraised.trans (causesGrow_permissionReturn _)
  · exact hraised

theorem afterBoundary_changeTracker (b : State) (t : Tracker) (cs : List Cause) :
    AfterBoundary b (changeTracker t cs b) where
  causes := causesGrow_changeTracker t cs b

theorem afterBoundary_dropPassedReference (b : State) : AfterBoundary b (dropPassedReference b) := by
  rcases dropPassedReference_cases b with h | h
  · rw [h]
    exact afterBoundary_refl b
  · rw [h]
    exact afterBoundary_setTracker b _

theorem afterBoundary_endHoldoverFrame (b : State) : AfterBoundary b (endHoldoverFrame b) := by
  unfold endHoldoverFrame
  split
  · exact afterBoundary_changeTracker b _ _
  · exact afterBoundary_setTracker b _

/-- What follows the steps of a boundary that is due, by the tracker state. -/
theorem exec_frameBoundary_of_due {s : State} (due : boundaryDue s = true) :
    ∃ t, exec .frameBoundary s = .next t ∧ AfterBoundary (takeBoundary s) t ∧
      (s.tracker.state = .free → t = takeBoundary s) ∧
      (s.tracker.state = .holdover → t = endHoldoverFrame (takeBoundary s)) := by
  rcases (boundaryDue_iff s).mp due with ⟨h | h, -⟩ | ⟨h, -⟩
  · exact ⟨_, exec_frameBoundary_free due h, afterBoundary_refl _, fun _ => rfl, fun h' => by simp [h] at h'⟩
  · exact ⟨_, exec_frameBoundary_acquire due h, afterBoundary_dropPassedReference _, fun h' => by simp [h] at h',
      fun h' => by simp [h] at h'⟩
  · exact ⟨_, exec_frameBoundary_holdover due h, afterBoundary_endHoldoverFrame _, fun h' => by simp [h] at h',
      fun _ => rfl⟩

/-- Settles O44. -/
theorem frameBoundaryBeginsAFrame : Obligations.FrameBoundaryBeginsAFrame := by
  intro s
  dsimp only
  rw [← boundaryDue_iff, ← timingValid_iff]
  refine ⟨rfl, fun h => by simp [lateSealPoint, h], fun h hphase => ?_, fun h hphase => ?_, rfl, ?_,
    fun hdiffers hvalid => transferCheck_of_valid hdiffers hvalid,
    fun hdiffers hinvalid hmark => transferCheck_of_invalid hdiffers hinvalid hmark, reportBoundary_of_notHeld,
    reportBoundary_of_counting, reportBoundary_of_expired, fun h => by simp [earlySealPoint, h], fun h => ?_, fun hnot => ?_,
    fun hdue h => exec_frameBoundary_free hdue h, fun hdue h => ⟨?_, ?_⟩, ?_, ?_, fun hdue => ?_⟩
  · simp [lateSealPoint, h, hphase, frameStamp]
  · simp [lateSealPoint, h, hphase, frameStamp]
  · rintro (hsame | ⟨hinvalid, hmark⟩)
    · exact transferCheck_of_same hsame
    · by_cases hsame : s.timer.shadow = s.timer.active
      · exact transferCheck_of_same hsame
      · exact transferCheck_of_refused hsame hinvalid hmark
  · simp only [earlySealPoint, if_pos h]
    rfl
  · show execFrameBoundary s = _
    unfold execFrameBoundary
    rw [if_neg hnot]
  · intro r href hpassed
    rw [exec_frameBoundary_acquire hdue h, dropPassedReference_of_passed (by simpa using href) (by simpa using hpassed)]
    simp
  · intro hahead
    rw [exec_frameBoundary_acquire hdue h, dropPassedReference_of_ahead (by simpa using hahead)]
  · intro hdue h hmore
    rw [exec_frameBoundary_holdover hdue h, endHoldoverFrame_of_more (by simpa using hmore)]
    simp
  · intro hdue h hlast
    rw [exec_frameBoundary_holdover hdue h, endHoldoverFrame_of_last (by simpa using hlast), changeTracker_eq]
    simp
  · obtain ⟨t, hexec, after, hfree, hholdover⟩ := exec_frameBoundary_of_due hdue
    have htimer := after.timer.trans (takeBoundary_timer s)
    have htransfer := atTransfer_timer s
    refine ⟨t, hexec, ?_, ?_, ?_, ?_, fun hsame => ?_, fun hdiffers hvalid => ?_, fun hdiffers hinvalid => ?_,
      by simp [after.now], by simp [after.srstn], by simp [after.sync], by simp [after.uport], by simp [after.dport],
      by simp [after.management], by simp [after.ring], by simp, fun h => by simp [hfree h], fun h hmore => ?_,
      fun h hlast => ?_, takeBoundary_of_nothing⟩
    · rw [htimer, transferCheck_frame, htransfer]
    · rw [after.timer, takeBoundary_phase]
    · rw [htimer, transferCheck_shadow, htransfer]
    · rw [htimer]
    · have hkept : transferCheck (atTransfer s) = atTransfer s := transferCheck_of_same (by simpa [htransfer] using hsame)
      rw [htimer, hkept, htransfer]
      exact ⟨rfl, rfl⟩
    · have htaken := transferCheck_of_valid (s := atTransfer s) (by simpa [htransfer] using hdiffers)
        (by simpa [htransfer] using hvalid)
      rw [htimer, htaken]
      simp [htransfer]
    · have hdiffers' : (atTransfer s).timer.shadow ≠ (atTransfer s).timer.active := by simpa [htransfer] using hdiffers
      have hinvalid' : ¬timingValid (atTransfer s).timer.shadow (atTransfer s).tracker.trackEn
          (atTransfer s).tracker.tolWide = true := by simpa [htransfer] using hinvalid
      cases hmark : s.timer.refusalMark with
      | true =>
        rw [htimer, transferCheck_of_refused hdiffers' hinvalid' (by simpa [htransfer] using hmark), htransfer]
        exact ⟨rfl, hmark, fun h => by cases h⟩
      | false =>
        have hraised := transferCheck_of_invalid hdiffers' hinvalid' (by simpa [htransfer] using hmark)
        have hcause := inCauseSet_raiseCause .timingRefused
          ((atTransfer s).setTimer { (atTransfer s).timer with refusalMark := true })
        rw [← hraised] at hcause
        refine ⟨?_, ?_, fun _ => after.causes _ (causesGrow_afterTransfer s _ hcause)⟩
        · rw [htimer, hraised]
          simp [htransfer]
        · rw [htimer, hraised]
          simp
    · rw [hholdover h, endHoldoverFrame_of_more (by simpa using hmore)]
      simp
    · rw [hholdover h, endHoldoverFrame_of_last (by simpa using hlast)]
      exact ⟨by simp, inCauseSet_changeTracker (by simp) _ _⟩

end Sys2Proof.Machine

/-! SUPPORT. What the Sync Tracker does with an edge and at the missing-sync point, by its state and the class of the
interval, and the edges of SRSTn, with the statements on them. -/

namespace Sys2Proof.Machine

/-! ### Interval classes (R107) -/

theorem difference_le_iff_within (i p n : Nat) : difference i p ≤ n ↔ Within i p n := by
  rw [difference_le_iff, and_comm]

theorem classOf_of_narrow {i p narrow wide : Nat} (h : Within i p narrow) : classOf i p narrow wide = .narrow := by
  simp only [classOf, difference_le_iff_within, if_pos h]

theorem classOf_of_wide {i p narrow wide : Nat} (hn : ¬Within i p narrow) (hw : Within i p wide) :
    classOf i p narrow wide = .wide := by
  simp only [classOf, difference_le_iff_within, if_neg hn, if_pos hw]

theorem classOf_of_early {i p narrow wide : Nat} (hn : ¬Within i p narrow) (hw : ¬Within i p wide) (h : i < p) :
    classOf i p narrow wide = .early := by
  simp only [classOf, difference_le_iff_within, if_neg hn, if_neg hw, if_pos h]

theorem classOf_of_late {i p narrow wide : Nat} (hn : ¬Within i p narrow) (hw : ¬Within i p wide) (h : p ≤ i) :
    classOf i p narrow wide = .lateEdge := by
  simp only [classOf, difference_le_iff_within, if_neg hn, if_neg hw, if_neg (Nat.not_lt_of_le h)]

theorem goodClass_of_within {i p narrow wide : Nat} (h : Within i p narrow ∨ Within i p wide) :
    goodClass (classOf i p narrow wide) = true := by
  by_cases hn : Within i p narrow
  · rw [classOf_of_narrow hn]
    rfl
  · rw [classOf_of_wide hn (h.resolve_left hn)]
    rfl

theorem goodClass_of_not_within {i p narrow wide : Nat} (h : ¬(Within i p narrow ∨ Within i p wide)) :
    goodClass (classOf i p narrow wide) = false := by
  obtain ⟨hn, hw⟩ := not_or.mp h
  rcases Nat.lt_or_ge i p with hlt | hge
  · rw [classOf_of_early hn hw hlt]
    rfl
  · rw [classOf_of_late hn hw hge]
    rfl

theorem measureInterval_of_good (i : Nat) {c : IntervalClass} (good : goodClass c = true) (s : State) :
    measureInterval i c s = s.setTracker { s.tracker with lastInterval := min i 4294967295, plast := i } := by
  simp only [measureInterval, good, if_true]
  rfl

theorem measureInterval_of_bad (i : Nat) {c : IntervalClass} (bad : goodClass c = false) (s : State) :
    measureInterval i c s = s.setTracker { s.tracker with lastInterval := min i 4294967295 } := by
  simp only [measureInterval, bad]
  rfl

/-! ### Boundaries and tracker changes -/

@[simp] theorem takeBoundary_frame (s : State) : (takeBoundary s).timer.frame = s.timer.frame + 1#32 := by
  rw [takeBoundary_timer, transferCheck_frame, atTransfer_timer]

@[simp] theorem trackerChanged_tracker (b : State) (t : Tracker) (cs : List Cause) : (trackerChanged b t cs).tracker = t := by
  rw [← changeTracker_eq, changeTracker_tracker]

/-- A change that leaves the gate's two inputs is the change alone. -/
theorem trackerChanged_of_sameGate {b : State} {t : Tracker} (state : t.state = b.tracker.state)
    (gate : t.gate = b.tracker.gate) : trackerChanged b t [] = b.setTracker t := by
  have hsame : gateOpen (b.setTracker t) = gateOpen b := by simp [gateOpen, state, gate]
  unfold trackerChanged
  refine if_neg ?_
  rintro ⟨hclosed, hopened⟩
  exact absurd (hsame.symm.trans hopened) (by simp [hclosed])

theorem lockLostFrom_eq (t : TrackerState) : lockLostFrom t = if t = .locked then [.lockLost] else [] := by
  simp only [lockLostFrom, beq_iff_eq]

theorem exec_syncEdge (s : State) : exec .syncEdge s = handleEdge (clearEdgeMark s) := rfl

/-! ### Edges in FREE and ACQUIRE (R109, R110) -/

theorem handleEdge_acquire {s : State} {r : Nat} (h : s.tracker.state = .acquire) (reference : s.tracker.reference = some r) :
    handleEdge s = .next (acquireEdge (s.now - r) s) := by
  simp only [handleEdge, h, reference]

theorem handleEdge_acquire_first {s : State} (h : s.tracker.state = .acquire) (reference : s.tracker.reference = none) :
    handleEdge s = .next (takeReference s) := by
  simp only [handleEdge, h, reference]

theorem acquireEdge_of_bad {s : State} {i : Nat}
    (bad : goodClass (classOf i s.timer.active.period s.tracker.tolNarrow s.tracker.tolWide) = false) :
    acquireEdge i s = s.setTracker
      { s.tracker with lastInterval := min i 4294967295, goodCount := 0, reference := some s.now } := by
  simp only [acquireEdge, bad, measureInterval_of_bad i bad]
  rfl

theorem acquireEdge_of_good {s : State} {i : Nat}
    (good : goodClass (classOf i s.timer.active.period s.tracker.tolNarrow s.tracker.tolWide) = true)
    (more : s.tracker.goodCount + 1 ≠ s.tracker.nAcq) :
    acquireEdge i s = s.setTracker
      { s.tracker with
        lastInterval := min i 4294967295, plast := i, goodCount := s.tracker.goodCount + 1, reference := some s.now } := by
  simp only [acquireEdge, good, measureInterval_of_good i good, State.setTracker_tracker, if_true, if_neg more]
  rfl

theorem acquireEdge_of_last {s : State} {i : Nat}
    (good : goodClass (classOf i s.timer.active.period s.tracker.tolNarrow s.tracker.tolWide) = true)
    (last : s.tracker.goodCount + 1 = s.tracker.nAcq) :
    acquireEdge i s = changeTracker
      { s.tracker with
        state := .track, lastInterval := min i 4294967295, plast := i, goodCount := s.tracker.goodCount + 1
        lockCount := 0, reference := some s.now }
      [] (takeBoundary (s.setTracker { s.tracker with lastInterval := min i 4294967295, plast := i })) := by
  simp only [acquireEdge, good, measureInterval_of_good i good, State.setTracker_tracker, if_true, if_pos last]
  simp

/-- Settles O45. -/
theorem syncEdgeInFreeAndAcquire : Obligations.SyncEdgeInFreeAndAcquire := by
  intro s
  refine ⟨fun h => ?_, fun h href => ?_, fun r h href => ?_⟩
  · rw [exec_syncEdge, handleEdge]
    simp only [clearEdgeMark, State.setSync_tracker, h]
  · rw [exec_syncEdge, handleEdge_acquire_first (s := clearEdgeMark s) h href]
    rfl
  · have hedge := handleEdge_acquire (s := clearEdgeMark s) h href
    refine ⟨fun hbad => ?_, fun hgood hmore => ?_, fun hgood hlast => ?_⟩
    · rw [exec_syncEdge, hedge]
      exact congrArg _ (acquireEdge_of_bad (s := clearEdgeMark s) (goodClass_of_not_within hbad))
    · rw [exec_syncEdge, hedge]
      exact congrArg _ (acquireEdge_of_good (s := clearEdgeMark s) (goodClass_of_within hgood) hmore)
    · have hlastEdge := acquireEdge_of_last (s := clearEdgeMark s) (i := s.now - r) (goodClass_of_within hgood) hlast
      refine ⟨_, (exec_syncEdge s).trans (hedge.trans (congrArg _ hlastEdge)), ?_⟩
      refine ⟨?_, changeTracker_tracker _ _ _, ?_⟩
      · rw [changeTracker_tracker, changeTracker_eq]
        rfl
      · simp [clearEdgeMark]

/-! ### Edges in TRACK and LOCKED (R112, R113) -/

theorem handleEdge_driven {s : State} {r : Nat} (h : s.tracker.state = .track ∨ s.tracker.state = .locked)
    (reference : s.tracker.reference = some r) : handleEdge s = trackEdge (s.now - r) s := by
  rcases h with h | h <;> simp only [handleEdge, h, reference]

theorem narrowEdgeInTrack_of_more {s : State} (h : s.tracker.lockCount + 1 ≠ s.tracker.nLock) :
    narrowEdgeInTrack s = (takeBoundary s).setTracker
      { s.tracker with lockCount := s.tracker.lockCount + 1, reference := some s.now } := by
  simp [narrowEdgeInTrack, h]

theorem narrowEdgeInTrack_of_last {s : State} (h : s.tracker.lockCount + 1 = s.tracker.nLock) :
    narrowEdgeInTrack s = changeTracker
      { s.tracker with state := .locked, lockCount := s.tracker.lockCount + 1, reference := some s.now }
      [.lockGained] (takeBoundary s) := by
  simp [narrowEdgeInTrack, h]

theorem narrowEdgeInLocked_eq (s : State) :
    narrowEdgeInLocked s = (takeBoundary s).setTracker { s.tracker with reference := some s.now } := by
  simp [narrowEdgeInLocked, takeReference]

theorem wideEdge_eq (s : State) : wideEdge s = changeTracker
    { s.tracker with state := .track, lockCount := 0, reference := some s.now }
    (lockLostFrom s.tracker.state) (takeBoundary s) := by
  simp [wideEdge]

/-- What a tracker event after a boundary shows of the boundary and of the change. -/
theorem trackerChanged_spec (b : State) (t : Tracker) (cs : List Cause) :
    (trackerChanged b t cs).tracker = t ∧
      (∀ c ∈ cs, inCauseSet (trackerChanged b t cs).attention.causes c = true) ∧
      (trackerChanged b t cs).now = b.now ∧ (trackerChanged b t cs).timer = b.timer ∧
      (trackerChanged b t cs).uport = b.uport ∧ (trackerChanged b t cs).dport = b.dport ∧
      (trackerChanged b t cs).management = b.management := by
  rw [← changeTracker_eq]
  exact ⟨changeTracker_tracker t cs b, fun c hc => inCauseSet_changeTracker hc t b, by simp⟩

/-- Settles O46, by the class of the interval. -/
theorem syncEdgeInTrackAndLocked : Obligations.SyncEdgeInTrackAndLocked := by
  intro s r href hstate i narrow wide outside cleared lost good measured changes bounds
  have hedge : exec .syncEdge s = trackEdge i cleared := handleEdge_driven (s := clearEdgeMark s) hstate href
  have hchanges : ∀ {b : State} {tracker : Tracker} {causes : List Cause}, b.now = s.now → b.uport = s.uport →
      b.dport = s.dport → b.management = s.management → trackEdge i cleared = .next (trackerChanged b tracker causes) →
      changes b tracker causes (trackerChanged b tracker causes) := by
    intro b tracker causes hnow huport hdport hmanagement heq
    obtain ⟨htracker, hcauses, hnow', -, huport', hdport', hmanagement'⟩ := trackerChanged_spec b tracker causes
    exact ⟨hedge.trans heq, rfl, htracker, hcauses, hnow'.trans hnow, huport'.trans huport, hdport'.trans hdport,
      hmanagement'.trans hmanagement⟩
  have hbounds : ∀ {tracker : Tracker} {causes : List Cause},
      trackEdge i cleared = .next (trackerChanged (takeBoundary measured) tracker causes) →
      bounds tracker causes (trackerChanged (takeBoundary measured) tracker causes) := by
    intro tracker causes heq
    obtain ⟨-, -, -, htimer, -⟩ := trackerChanged_spec (takeBoundary measured) tracker causes
    refine ⟨hchanges ?_ ?_ ?_ ?_ heq, ?_, ?_⟩
    · simp [measured, cleared]
    · simp [measured, cleared]
    · simp [measured, cleared]
    · simp [measured, cleared]
    · rw [htimer, takeBoundary_phase]
    · rw [htimer, takeBoundary_frame]
      rfl
  have hlost : lockLostFrom s.tracker.state = lost := lockLostFrom_eq _
  have hmeasured : ∀ {c : IntervalClass}, goodClass c = true → measureInterval i c cleared = measured :=
    fun hgood => measureInterval_of_good i hgood cleared
  refine ⟨fun hnarrow htrack hmore => ⟨_, hbounds ?_⟩, fun hnarrow htrack hlast => ⟨_, hbounds ?_⟩,
    fun hnarrow hlocked => ⟨_, hbounds ?_⟩, fun ⟨hnot, hwide⟩ => ⟨_, hbounds ?_⟩, fun ⟨hnot, hnot'⟩ hearly => ?_,
    fun ⟨hnot, hnot'⟩ hlate => ?_⟩
  · have hclass : classOf i cleared.timer.active.period cleared.tracker.tolNarrow cleared.tracker.tolWide = .narrow :=
      classOf_of_narrow hnarrow
    have hne : cleared.tracker.state ≠ .locked := by
      show s.tracker.state ≠ .locked
      simp [htrack]
    simp only [trackEdge, hclass, hmeasured (c := .narrow) rfl, if_neg hne, narrowEdgeInTrack_of_more (s := measured) hmore]
    rw [trackerChanged_of_sameGate (by simp [good, measured]) (by simp [good, measured])]
    rfl
  · have hclass : classOf i cleared.timer.active.period cleared.tracker.tolNarrow cleared.tracker.tolWide = .narrow :=
      classOf_of_narrow hnarrow
    have hne : cleared.tracker.state ≠ .locked := by
      show s.tracker.state ≠ .locked
      simp [htrack]
    simp only [trackEdge, hclass, hmeasured (c := .narrow) rfl, if_neg hne, narrowEdgeInTrack_of_last (s := measured) hlast,
      changeTracker_eq]
    rfl
  · have hclass : classOf i cleared.timer.active.period cleared.tracker.tolNarrow cleared.tracker.tolWide = .narrow :=
      classOf_of_narrow hnarrow
    have heq : cleared.tracker.state = .locked := hlocked
    simp only [trackEdge, hclass, hmeasured (c := .narrow) rfl, if_pos heq, narrowEdgeInLocked_eq]
    rw [trackerChanged_of_sameGate (by simp [good, measured]) (by simp [good, measured])]
    rfl
  · have hclass : classOf i cleared.timer.active.period cleared.tracker.tolNarrow cleared.tracker.tolWide = .wide :=
      classOf_of_wide hnot hwide
    simp only [trackEdge, hclass, hmeasured (c := .wide) rfl, wideEdge_eq, changeTracker_eq]
    rw [← hlost]
    rfl
  · have hclass : classOf i cleared.timer.active.period cleared.tracker.tolNarrow cleared.tracker.tolWide = .early :=
      classOf_of_early hnot hnot' hearly
    refine ⟨_, ?_, hchanges rfl rfl rfl rfl ?_⟩
    · obtain ⟨-, -, -, htimer, -⟩ := trackerChanged_spec
        (cleared.setTracker { s.tracker with lastInterval := min i 4294967295 })
        { s.tracker with
          state := .acquire, lastInterval := min i 4294967295, goodCount := 0, lockCount := 0, reference := some s.now }
        lost
      rw [htimer]
      rfl
    · simp only [trackEdge, hclass, measureInterval_of_bad i (c := .early) rfl, earlyEdge, changeTracker_eq]
      rw [← hlost]
      rfl
  · have hclass : classOf i cleared.timer.active.period cleared.tracker.tolNarrow cleared.tracker.tolWide = .lateEdge :=
      classOf_of_late hnot hnot' hlate
    rw [hedge]
    simp only [trackEdge, hclass]

/-! ### Edges in HOLDOVER (R90, R116) -/

theorem realign_offered (s : State) :
    (realign s).timer.offered = (s.timer.offered || s.timer.active.sealPhase == 0) := by
  by_cases hzero : s.timer.active.sealPhase = 0
  · cases hoffered : s.timer.offered <;> simp [realign, hzero, hoffered]
  · simp [realign, hzero]

@[simp] theorem realign_frame (s : State) : (realign s).timer.frame = s.timer.frame := by
  simp only [realign]
  split <;> simp

/-- Settles O47. -/
theorem syncEdgeInHoldover : Obligations.SyncEdgeInHoldover := by
  intro s r hstate href cleared moved realigned back
  have hedge : exec .syncEdge s = .next (holdoverEdge cleared) := by
    show handleEdge cleared = _
    have hstate' : cleared.tracker.state = .holdover := hstate
    simp only [handleEdge, hstate']
  have hback : ∀ b : State, b.tracker = s.tracker → b.now = s.now → afterHoldoverEdge b = back := by
    intro b htracker hnow
    simp only [afterHoldoverEdge, htracker, hnow, href]
    rfl
  refine ⟨fun hboundary => ?_, fun hbefore hnear => ?_, fun hbefore hfar => ?_⟩
  · have heq : holdoverEdge cleared = trackerChanged (takeBoundary cleared) back [] := by
      have hpast : cleared.tracker.plast - cleared.tracker.tolWide ≤ cleared.timer.phase :=
        Nat.sub_le_iff_le_add.mpr hboundary
      simp only [holdoverEdge, if_pos hpast, changeTracker_eq]
      rw [hback (takeBoundary cleared) (by simp [cleared]) (by simp [cleared])]
    obtain ⟨htracker, -, -, htimer, huport, hdport, hmanagement⟩ := trackerChanged_spec (takeBoundary cleared) back []
    refine ⟨_, by rw [hedge, heq], rfl, htracker, ?_, ?_, ?_, ?_, ?_⟩
    · rw [htimer, takeBoundary_phase]
    · rw [htimer, takeBoundary_frame]
      rfl
    · simpa [cleared] using huport
    · simpa [cleared] using hdport
    · simpa [cleared] using hmanagement
  · have hrealigned : realign cleared = realigned := by
      simp only [realign, Bool.and_eq_true, decide_eq_true_eq, Bool.not_eq_true']
      rfl
    have heq : holdoverEdge cleared = trackerChanged (realign cleared) back [] := by
      have hnot : ¬cleared.tracker.plast - cleared.tracker.tolWide ≤ cleared.timer.phase := by
        rw [Nat.sub_le_iff_le_add]
        exact Nat.not_le_of_lt hbefore
      have hnear' : cleared.timer.phase ≤ cleared.tracker.tolWide := hnear
      simp only [holdoverEdge, if_neg hnot, if_pos hnear', changeTracker_eq]
      rw [hback (realign cleared) (by simp [cleared]) (by simp [cleared])]
    obtain ⟨htracker, -, -, htimer, huport, hdport, hmanagement⟩ := trackerChanged_spec (realign cleared) back []
    rw [← hrealigned]
    refine ⟨_, by rw [hedge, heq], rfl, htracker, ?_, ?_, ?_, ?_, ?_, ?_, ?_⟩
    · rw [htimer, realign_phase]
    · simpa [cleared] using huport
    · simpa [cleared] using hdport
    · simpa [cleared] using hmanagement
    · rw [htimer, realign_frame]
      rfl
    · rw [htimer, realign_active]
      rfl
    · rw [htimer, realign_offered]
      rfl
  · have hnot : ¬cleared.tracker.plast - cleared.tracker.tolWide ≤ cleared.timer.phase := by
      rw [Nat.sub_le_iff_le_add]
      exact Nat.not_le_of_lt hbefore
    have hfar' : ¬cleared.timer.phase ≤ cleared.tracker.tolWide := Nat.not_le_of_lt hfar
    rw [hedge]
    simp only [holdoverEdge, if_neg hnot, if_neg hfar']
    rfl

/-! ### The missing-sync point (R111, R114) -/

theorem missingSyncDue_iff (s : State) : missingSyncDue s = true ↔
    (s.tracker.state = .acquire ∨ s.tracker.state = .track ∨ s.tracker.state = .locked) ∧
      ∃ r, s.tracker.reference = some r ∧ r + s.timer.active.period + s.tracker.tolWide ≤ s.now := by
  unfold missingSyncDue
  cases s.tracker.state <;> cases s.tracker.reference <;> simp

/-- The tracker after the missing-sync point in TRACK or LOCKED. -/
theorem missingInTrack_eq (s : State) : missingInTrack s = changeTracker
    (if 0 < s.tracker.holdoverLimit then { s.tracker with state := .holdover, holdoverCount := 0 }
     else { s.tracker with state := .acquire, goodCount := 0, lockCount := 0, reference := none })
    (lockLostFrom s.tracker.state) (takeBoundary s) := by
  simp [missingInTrack]

/-- Settles O48. -/
theorem missingSyncPoint : Obligations.MissingSyncPoint := by
  intro s
  refine ⟨fun hstays => ?_, fun r href hdue => ⟨fun h => ?_, fun h => ?_⟩⟩
  · have hnot : ¬missingSyncDue s = true := by
      rw [missingSyncDue_iff]
      rintro ⟨hstate, r, href, hdue⟩
      rcases hstays with h | h | h | ⟨r', href', hlater⟩
      · simp [h] at hstate
      · simp [h] at hstate
      · simp [h] at href
      · obtain rfl : r = r' := Option.some.inj (href.symm.trans href')
        omega
    show execMissingSyncPoint s = _
    unfold execMissingSyncPoint
    rw [if_neg hnot]
  · have hmissing := (missingSyncDue_iff s).mpr ⟨.inl h, r, href, hdue⟩
    show execMissingSyncPoint s = _
    unfold execMissingSyncPoint
    rw [if_pos hmissing, if_pos h]
    rfl
  · have hmissing := (missingSyncDue_iff s).mpr ⟨.inr h, r, href, hdue⟩
    have hne : s.tracker.state ≠ .acquire := by
      rcases h with h | h <;> simp [h]
    have hexec : exec .missingSyncPoint s = .next (missingInTrack s) := by
      show execMissingSyncPoint s = _
      unfold execMissingSyncPoint
      rw [if_pos hmissing, if_neg hne]
    have heq := missingInTrack_eq s
    rw [lockLostFrom_eq] at heq
    refine ⟨missingInTrack s, hexec, ?_, ?_, ?_, ?_, ?_, ?_, fun hlocked => ?_, ?_⟩
    · rw [heq, changeTracker_tracker, changeTracker_eq]
    · simp [heq]
    · simp [heq]
    · simp [heq]
    · simp [heq]
    · simp [heq]
    · rw [heq]
      exact inCauseSet_changeTracker (by simp [hlocked]) _ _
    · rw [heq, changeTracker_tracker]

end Sys2Proof.Machine

/-! SUPPORT. The edges of SRSTn, and the framing of the management port: frame start and end, and the bytes of a frame by
the receiver state, with the statements on them. -/

namespace Sys2Proof.Machine

/-! ### SRSTn (R16, R60, R61, R77, R138, R139) -/

theorem returnOwed_of_not {s : State} (h : s.sealing.owed = false ∨ framePermission s = false) : returnOwed s = s := by
  unfold returnOwed
  refine if_neg ?_
  rcases h with h | h <;> simp [h]

theorem returnCommitNow_of_not {s : State} (h : s.sealing.commitNow = false ∨ commandPermission s = false) :
    returnCommitNow s = s := by
  unfold returnCommitNow
  refine if_neg ?_
  rcases h with h | h <;> simp [h]

theorem permissionReturn_of_nothing {s : State} (owed : s.sealing.owed = false) (commitNow : s.sealing.commitNow = false) :
    permissionReturn s = s := by
  rw [permissionReturn, returnOwed_of_not (.inl owed), returnCommitNow_of_not (.inl commitNow)]

/-- While a sealed generation exists no permission is there to take anything. -/
theorem permissionReturn_of_draining {s : State} (h : s.store.sealedGen ≠ none) : permissionReturn s = s := by
  have hcommand : commandPermission s = false := by
    rw [← Bool.not_eq_true, commandPermission_iff]
    exact fun hp => h hp.1
  have hframe : framePermission s = false := by
    rw [← Bool.not_eq_true, framePermission_iff]
    exact fun hp => absurd hp.1 (by simp [hcommand])
  rw [permissionReturn, returnOwed_of_not (.inr hframe), returnCommitNow_of_not (.inr hcommand)]

theorem reopenPort_of_closed {s : State} (closed : s.uport.isOpen = false) (srstn : s.srstn = .high)
    (free : s.store.sealedGen = none) :
    reopenPort s = raiseCause .warmReset (s.setUport { s.uport with isOpen := true }) := by
  simp [reopenPort, closed, srstn, free]

theorem reopenPort_of_draining {s : State} (h : s.store.sealedGen ≠ none) : reopenPort s = s := by
  unfold reopenPort
  refine if_neg ?_
  simp [h]

theorem exec_srstnDeassertion {s : State} (low : s.srstn = .low) :
    exec .srstnDeassertion s = .next (reopenPort (permissionReturn (s.setSrstn .high))) := by
  show execSrstnDeassertion s = _
  simp only [execSrstnDeassertion, low, if_true]

/-- Settles O49. -/
theorem srstnEdges : Obligations.SrstnEdges := by
  intro s
  have hassert : s.srstn = .high → exec .srstnAssertion s = .next (assertReset s) := by
    intro high
    show execSrstnAssertion s = _
    simp only [execSrstnAssertion, high, if_true]
  refine ⟨fun high hb => ?_, fun b high hb => ?_, fun low => ?_, exec_srstnDeassertion, fun low hgen => ?_,
    fun low hfree hclosed howed hcommit => ?_, fun high => ?_⟩
  · rw [hassert high, assertReset_eq, discardOpen_of_empty hb]
    rfl
  · rw [hassert high, assertReset_eq, discardOpen_of_body hb]
    rfl
  · show execSrstnAssertion s = _
    simp [execSrstnAssertion, low]
  · rw [exec_srstnDeassertion low, permissionReturn_of_draining (s := s.setSrstn .high) hgen,
      reopenPort_of_draining (s := s.setSrstn .high) hgen]
  · rw [exec_srstnDeassertion low, permissionReturn_of_nothing (s := s.setSrstn .high) howed hcommit,
      reopenPort_of_closed (s := s.setSrstn .high) hclosed rfl hfree]
    rfl
  · show execSrstnDeassertion s = _
    simp [execSrstnDeassertion, high]

/-! ### The status byte (R178) -/

/-- Each flag stands at its own bit of the status byte, and bit 0 reads 0. -/
theorem statusByte_bits (s : State) :
    (statusByte s).getLsbD 7 = attentionPending s.attention ∧
      (statusByte s).getLsbD 5 = (s.tracker.state == .locked) ∧
      (statusByte s).getLsbD 4 = s.store.sealedGen.isSome ∧
      (statusByte s).getLsbD 2 = s.management.lastFrameError ∧
      (statusByte s).getLsbD 1 = (!s.uport.isOpen) ∧ (statusByte s).getLsbD 0 = false := by
  have hPending := flagCode_le_one (attentionPending s.attention)
  have hHold := flagCode_le_one (s.sealing.hold == .held)
  have hLocked := flagCode_le_one (s.tracker.state == .locked)
  have hSealed := flagCode_le_one s.store.sealedGen.isSome
  have hApply := flagCode_le_one (applyArmed s)
  have hFrameError := flagCode_le_one s.management.lastFrameError
  have hClosed := flagCode_le_one (!s.uport.isOpen)
  refine ⟨?_, ?_, ?_, ?_, ?_, ?_⟩
  · refine getLsbD_ofNat_of_flagCode (by decide) ?_
    omega
  · refine getLsbD_ofNat_of_flagCode (by decide) ?_
    omega
  · refine getLsbD_ofNat_of_flagCode (by decide) ?_
    omega
  · refine getLsbD_ofNat_of_flagCode (by decide) ?_
    omega
  · refine getLsbD_ofNat_of_flagCode (by decide) ?_
    omega
  · refine getLsbD_ofNat_of_flagCode (by decide) ?_
    show _ = 0
    omega

/-- Attention is pending where a cause is raised and enabled (R157). -/
theorem attentionPending_iff (a : Attention) : attentionPending a = true ↔
    ∃ c, inCauseSet a.causes c = true ∧ inCauseSet a.enabled c = true := by
  have hand : ∀ c, inCauseSet (a.causes &&& a.enabled) c = (inCauseSet a.causes c && inCauseSet a.enabled c) :=
    fun _ => BitVec.getLsbD_and
  have hempty : a.causes &&& a.enabled = 0#16 ↔ ∀ c, inCauseSet (a.causes &&& a.enabled) c = false := by
    refine ⟨fun h c => by rw [h]; simp [inCauseSet], fun h => causeSet_ext fun c => ?_⟩
    rw [h c]
    simp [inCauseSet]
  rw [attentionPending, bne_iff_ne, ne_eq, hempty]
  simp only [hand, not_forall, Bool.not_eq_false, Bool.and_eq_true]

/-! ### Frame start and end (R169, R173, R174) -/

/-- An empty slot is a reply of no bytes, whose CRC is 0. -/
theorem outgoingStream_eq (status : Byte) (slot : Option (List Byte)) : outgoingStream status slot =
    if slot = none then [status, 0x00#8, 0x00#8]
    else [status, BitVec.ofNat 8 (slot.getD []).length] ++ slot.getD [] ++
      [crc8 (BitVec.ofNat 8 (slot.getD []).length :: slot.getD [])] := by
  cases slot with
  | none =>
    show [status, 0x00#8, crc8 [0x00#8]] = _
    rw [crcOfAMessage.1]
    rfl
  | some r => rfl

theorem exec_frameEnd {s : State} (leftover : List Bool) (low : s.management.mcsn = .low) :
    exec (.frameEnd leftover) s = .next (s.setManagement (endFrame s.management)) := by
  show execFrameEnd leftover s = _
  simp only [execFrameEnd, low, if_true]

/-- Settles O50. -/
theorem frameStartAndEnd : Obligations.FrameStartAndEnd := by
  intro s ended
  obtain ⟨hpending, hlocked, hsealed, herror, hclosed, hzero⟩ := statusByte_bits s
  refine ⟨fun high => ⟨statusByte s, ?_, ?_, ?_, ?_, ?_, ?_, ?_, ?_, ?_⟩, fun low => ?_,
    fun leftover => ⟨fun high => ?_, fun low => ⟨fun hrx => ?_, fun hrx => ?_, fun hrx => ?_, fun hrx => ?_⟩⟩⟩
  · show execFrameStart s = _
    simp only [execFrameStart, high, if_true, startFrame, outgoingStream_eq]
  · rw [hpending, attentionPending_iff]
  · rw [statusByte_holdFlag, beq_iff_eq]
  · rw [hlocked, beq_iff_eq]
  · rw [hsealed, Option.isSome_iff_ne_none]
  · rw [statusByte_applyFlag, applyArmed_iff]
  · rw [herror]
  · rw [hclosed, Bool.not_eq_true']
  · exact hzero
  · show execFrameStart s = _
    simp [execFrameStart, low]
  · show execFrameEnd leftover s = _
    simp [execFrameEnd, high]
  · rw [exec_frameEnd leftover low]
    rcases hrx with h | h <;> simp only [endFrame, h] <;> rfl
  · rw [exec_frameEnd leftover low]
    rcases hrx with h | h <;> simp only [endFrame, h] <;> rfl
  · rw [exec_frameEnd leftover low]
    simp only [endFrame, hrx, Bool.beq_eq_decide_eq]
    rfl
  · rw [exec_frameEnd leftover low]
    simp only [endFrame, hrx]
    rfl

end Sys2Proof.Machine

/-! SUPPORT. The bytes of a frame by the receiver state, reads of items and of words, and the encodings of the items, with
the statements on them. -/

namespace Sys2Proof.Machine

/-! ### The bytes of a frame (R170 to R172, R176) -/

theorem paramCount_eq (code : Byte) : paramCount code =
    if code = 0x01#8 then some 3 else if code = 0x02#8 then some 6
    else if code = 0x04#8 ∨ code = 0x10#8 then some 4 else if code = 0x0E#8 then some 1
    else if code ∈ [0x00#8, 0x03#8, 0x08#8, 0x09#8, 0x0A#8, 0x0B#8, 0x0C#8, 0x0D#8] then some 0 else none := by
  have hcode : ∀ k : Byte, code = k ↔ code.toNat = k.toNat := fun k => BitVec.toNat_inj.symm
  simp only [List.mem_cons, List.not_mem_nil, or_false, hcode]
  unfold paramCount
  split <;> simp_all

theorem exec_commandParameterByte {s : State} {b : Byte} {m : Management} (h : keepByte b s.management = some m) :
    exec (.commandParameterByte b) s = .next (s.setManagement m) := by
  show execCommandParameterByte b s = _
  simp only [execCommandParameterByte, h]

theorem keepByte_code {b : Byte} {n : Nat} {m : Management} (hrx : m.rx = .awaitCode) (hn : paramCount b = some n) :
    keepByte b m = some { clockByte m with buffer := [b], rx := if n = 0 then .awaitCrc else .params } := by
  cases n with
  | zero => simp only [keepByte, hrx, hn, if_true]
  | succ k => simp [keepByte, hrx, hn]

theorem keepByte_param {b code : Byte} {params : List Byte} {n : Nat} {m : Management} (hrx : m.rx = .params)
    (hbuffer : m.buffer = code :: params) (hn : paramCount code = some n) : keepByte b m = some
      { clockByte m with buffer := m.buffer ++ [b], rx := if params.length + 1 < n then .params else .awaitCrc } := by
  have hexpected : paramsExpected m.buffer = n := by simp [paramsExpected, hbuffer, hn]
  have hlength : m.buffer.length = params.length + 1 := by simp [hbuffer]
  simp only [keepByte, hrx, hexpected, hlength]
  rcases Nat.lt_or_ge (params.length + 1) n with hlt | hge
  · rw [if_neg (Nat.not_le_of_lt hlt), if_pos hlt]
  · rw [if_pos hge, if_neg (Nat.not_lt_of_le hge)]

/-- After its command a frame's bytes only clock the outgoing stream. -/
theorem keepByte_ignored {b : Byte} {m : Management} (h : m.rx = .done ∨ m.rx = .discard) :
    keepByte b m = some (clockByte m) := by
  rcases h with h | h <;> simp only [keepByte, h]

/-- Settles O51. -/
theorem receiverBytes : Obligations.ReceiverBytes := by
  refine ⟨paramCount_eq, fun s b => ⟨fun n hrx hn => exec_commandParameterByte (keepByte_code hrx hn),
    fun code params n hrx hbuffer hn => exec_commandParameterByte (keepByte_param hrx hbuffer hn),
    fun hrx => exec_commandParameterByte (keepByte_ignored hrx),
    fun hrx => ?_, fun hrx hn => ?_, fun h => ?_, fun hrx hcrc => ?_, fun h => ?_, fun hnone => ?_, fun bytes hbytes => ?_⟩⟩
  · have hnone : keepByte b s.management = none := by
      rcases hrx with h | h | ⟨h, hn⟩
      · simp only [keepByte, h]
      · simp only [keepByte, h]
      · simp only [keepByte, h, hn]
    show execCommandParameterByte b s = _
    simp only [execCommandParameterByte, hnone]
  · show execNakCode b s = _
    simp only [execNakCode, hrx, hn, and_self, if_true]
    rfl
  · show execNakCode b s = _
    unfold execNakCode
    refine if_neg ?_
    rintro ⟨hrx, hn⟩
    exact h.elim (fun h => h hrx) fun h => h hn
  · show execCommandCrcMismatch b s = _
    unfold execCommandCrcMismatch
    rw [if_pos ⟨hrx, hcrc⟩]
    rfl
  · show execCommandCrcMismatch b s = _
    unfold execCommandCrcMismatch
    refine if_neg ?_
    rintro ⟨hrx, hcrc⟩
    exact h.elim (fun h => h hrx) hcrc
  · simp only [mdoByte, hnone, Option.map_none]
  · simp only [mdoByte, hbytes, Option.map_some, Option.some.injEq]
    split
    · rfl
    · next hpast => exact List.getD_eq_default _ _ (Nat.le_of_not_lt hpast)

/-! ### Management commands by their action (R172) -/

/-- What the command of a frame does and answers. -/
def commandAct : Instr → State → State × Option (List Byte)
  | .nop => fun t => (t, none)
  | .readItem item count => fun t => (t, some (readItemReply item count t))
  | .writeItem item v => fun t => withCode (writeItem item v t)
  | .shadowWindowWrite w f v => fun t => withCode (writeShadowWindow w f v t)
  | .shadowTimingWrite q v => fun t => withCode (writeShadowTiming q v t)
  | .trackerParameterWrite p v => fun t => withCode (writeTrackerParam p v t)
  | .trackEnEnable => fun t => withCode (enableTracker t)
  | .trackEnDisable => fun t => withCode (disableTracker t)
  | .gateWrite v => fun t => withCode (writeGate v t)
  | .enableSetWrite v => fun t => withCode (writeEnableSet v t)
  | .readRecord => readRecord
  | .ackAttn mask => ackAttention mask
  | .hold => holdSeals
  | .release => releaseSeals
  | .commitNow => commitNow
  | .abortOpen => abortOpen
  | .applyTable => armApply
  | .cancelApply => cancelApply
  | .clearFault index => clearFault index
  | .queryWord a => fun t => (t, some (queryReply t.store a))
  | _ => fun t => (t, none)

theorem exec_eq_runCommand {i : Instr} {bs : List Byte} (h : commandBytes i = some bs) (s : State) :
    exec i s = runCommand i (commandAct i) s := by
  cases i with
  | nop | readItem | writeItem | shadowWindowWrite | shadowTimingWrite | trackerParameterWrite | trackEnEnable
  | trackEnDisable | gateWrite | enableSetWrite | readRecord | ackAttn | hold | release | commitNow | abortOpen
  | applyTable | cancelApply | clearFault | queryWord => rfl
  | _ => cases h

/-- An awaited command answers what its action answers. -/
theorem exec_of_awaits {i : Instr} {s t : State} {r : Option (List Byte)} (h : Awaits s i)
    (hact : commandAct i s = (t, r)) : exec i s = .next (replied t r) :=
  (exec_eq_runCommand h.2 s).trans (runCommand_of_awaits h hact)

theorem awaitsCommand_iff (s : State) (i : Instr) : awaitsCommand s i = true ↔ Awaits s i := by
  simp [awaitsCommand, Awaits]

/-- A command that the receiver does not await changes nothing. -/
theorem exec_of_not_awaits {i : Instr} {bs : List Byte} {s : State} (hbytes : commandBytes i = some bs)
    (h : ¬Awaits s i) : exec i s = .next s := by
  rw [exec_eq_runCommand hbytes]
  refine runCommand_stays i _ s ?_
  rwa [← Bool.not_eq_true, awaitsCommand_iff]

/-! ### Items that hold one number or one code (R190) -/

theorem ofNat_flagCode (b : Bool) : BitVec.ofNat 32 (flagCode b) = if b then 1#32 else 0#32 := by
  cases b <;> rfl

theorem numberEncoding (s : State) : NumberEncoding s where
  device := rfl
  windows w := ⟨rfl, rfl, rfl, rfl, rfl, rfl, ofNat_flagCode _, ofNat_flagCode _⟩
  timing := ⟨rfl, rfl, rfl, rfl, rfl, rfl, rfl, rfl⟩
  parameters := by
    refine ⟨ofNat_flagCode _, rfl, rfl, rfl, rfl, rfl, fun h => ?_, fun h => ?_, fun h => ?_⟩
    · simp only [itemValue, h, gateCode]
    · simp only [itemValue, h, gateCode]
    · simp only [itemValue, h, gateCode]
  tracker := by
    refine ⟨fun h => ?_, fun h => ?_, fun h => ?_, fun h => ?_, fun h => ?_, rfl, rfl⟩
    · simp only [itemValue, h, trackerStateCode]
    · simp only [itemValue, h, trackerStateCode]
    · simp only [itemValue, h, trackerStateCode]
    · simp only [itemValue, h, trackerStateCode]
    · simp only [itemValue, h, trackerStateCode]
  sealing := by
    refine ⟨rfl, ?_⟩
    cases h : s.sealing.lateSeal <;> simp [itemValue, h, lateSealCode]
  store := by
    refine ⟨rfl, rfl, ?_, rfl, rfl⟩
    cases h : s.store.sealedGen <;> simp [itemValue, h]
  ports := ⟨rfl, rfl, rfl, rfl⟩
  records := ⟨rfl, rfl⟩

/-! ### Items that hold more than one field (R190) -/

/-- A field of a word that is a sum of fields, each within its bits. -/
theorem extractLsb'_ofNat {n start len k : Nat} (hn : n < 4294967296) (h : n / 2 ^ start % 2 ^ len = k % 2 ^ len) :
    (BitVec.ofNat 32 n).extractLsb' start len = BitVec.ofNat len k := by
  apply BitVec.eq_of_toNat_eq
  rw [BitVec.extractLsb'_toNat, BitVec.toNat_ofNat, BitVec.toNat_ofNat, Nat.mod_eq_of_lt hn, Nat.shiftRight_eq_div_pow, h]

/-- The kind of the last apply's outcome, in bits 10 to 8. -/
def outcomeKind : ApplyOutcome → Nat
  | .noOutcome => 0
  | .applied => 1
  | .refusedLimit _ => 2
  | .refusedOverlap _ => 3
  | .cancelled => 4

/-- The window that the last apply's outcome names, in bits 19 to 16. -/
def outcomeWindow : ApplyOutcome → Nat
  | .noOutcome => 0
  | .applied => 0
  | .refusedLimit w => w.val
  | .refusedOverlap w => w.val
  | .cancelled => 0

theorem outcomeKind_le (o : ApplyOutcome) : outcomeKind o ≤ 4 := by
  cases o <;> simp [outcomeKind]

theorem outcomeWindow_lt (o : ApplyOutcome) : outcomeWindow o < 16 := by
  cases o with
  | refusedLimit w => exact w.isLt
  | refusedOverlap w => exact w.isLt
  | _ => decide

theorem applyOutcomeCode_eq (t : WindowTable) : applyOutcomeCode t =
    flagCode (decide (t.applyState = .armed)) + outcomeKind t.lastOutcome * 256 + outcomeWindow t.lastOutcome * 65536 := by
  unfold applyOutcomeCode
  cases t.applyState <;> cases t.lastOutcome <;> simp [flagCode, outcomeKind, outcomeWindow] <;> omega

/-- The fields of the apply state and last outcome item. -/
theorem applyOutcome_fields (s : State) :
    let v := itemValue s .applyOutcome
    v.getLsbD 0 = decide (s.windows.applyState = .armed) ∧
      v.extractLsb' 8 3 = BitVec.ofNat 3 (outcomeKind s.windows.lastOutcome) ∧
      v.extractLsb' 16 4 = BitVec.ofNat 4 (outcomeWindow s.windows.lastOutcome) ∧
      v.extractLsb' 1 7 = 0#7 ∧ v.extractLsb' 11 5 = 0#5 ∧ v.extractLsb' 20 12 = 0#12 := by
  simp only [itemValue, applyOutcomeCode_eq]
  have hflag := flagCode_le_one (decide (s.windows.applyState = .armed))
  have hkind := outcomeKind_le s.windows.lastOutcome
  have hwindow := outcomeWindow_lt s.windows.lastOutcome
  refine ⟨getLsbD_ofNat_of_flagCode (by decide) ?_, extractLsb'_ofNat ?_ ?_, extractLsb'_ofNat ?_ ?_,
    extractLsb'_ofNat ?_ ?_, extractLsb'_ofNat ?_ ?_, extractLsb'_ofNat ?_ ?_⟩ <;> omega

theorem sealStateCode_eq (c : SealControl) : sealStateCode c =
    flagCode (decide (c.hold = .held)) + c.holdCount * 256 + flagCode c.expired * 65536 + flagCode c.owed * 131072 +
      flagCode c.commitNow * 262144 := by
  unfold sealStateCode
  cases c.hold <;> simp [flagCode]

theorem sealState_fields {s : State} (hcount : s.sealing.holdCount ≤ 255) :
    let v := itemValue s .sealState
    v.getLsbD 0 = decide (s.sealing.hold = .held) ∧ v.extractLsb' 8 8 = BitVec.ofNat 8 s.sealing.holdCount ∧
      v.getLsbD 16 = s.sealing.expired ∧ v.getLsbD 17 = s.sealing.owed ∧ v.getLsbD 18 = s.sealing.commitNow ∧
      v.extractLsb' 1 7 = 0#7 ∧ v.extractLsb' 19 13 = 0#13 := by
  simp only [itemValue, sealStateCode_eq]
  have hhold := flagCode_le_one (decide (s.sealing.hold = .held))
  have hexpired := flagCode_le_one s.sealing.expired
  have howed := flagCode_le_one s.sealing.owed
  have hcommit := flagCode_le_one s.sealing.commitNow
  refine ⟨getLsbD_ofNat_of_flagCode (by decide) ?_, extractLsb'_ofNat ?_ ?_, getLsbD_ofNat_of_flagCode (by decide) ?_,
    getLsbD_ofNat_of_flagCode (by decide) ?_, getLsbD_ofNat_of_flagCode (by decide) ?_, extractLsb'_ofNat ?_ ?_,
    extractLsb'_ofNat ?_ ?_⟩ <;> omega

theorem windowCounts_fields {opened drained : Nat} (hopened : opened ≤ 512) (hdrained : drained ≤ 512) :
    let v := BitVec.ofNat 32 (opened * 65536 + drained)
    v.extractLsb' 16 10 = BitVec.ofNat 10 opened ∧ v.extractLsb' 0 10 = BitVec.ofNat 10 drained ∧
      v.extractLsb' 10 6 = 0#6 ∧ v.extractLsb' 26 6 = 0#6 := by
  refine ⟨extractLsb'_ofNat ?_ ?_, extractLsb'_ofNat ?_ ?_, extractLsb'_ofNat ?_ ?_, extractLsb'_ofNat ?_ ?_⟩ <;> omega

theorem goodAndLock_fields {good lock : Nat} (hgood : good ≤ 15) (hlock : lock ≤ 255) :
    let v := BitVec.ofNat 32 (good * 256 + lock)
    v.extractLsb' 8 4 = BitVec.ofNat 4 good ∧ v.extractLsb' 0 8 = BitVec.ofNat 8 lock ∧ v.extractLsb' 12 20 = 0#20 := by
  refine ⟨extractLsb'_ofNat ?_ ?_, extractLsb'_ofNat ?_ ?_, extractLsb'_ofNat ?_ ?_⟩ <;> omega

theorem policyView_fields (p : Policy) (view : View) :
    let v := BitVec.ofNat 32 (policyCode p + viewCode view)
    (p = .stall → v.extractLsb' 0 2 = 0#2) ∧ (p = .reject → v.extractLsb' 0 2 = 1#2) ∧
      (p = .spill → v.extractLsb' 0 2 = 2#2) ∧ v.getLsbD 8 = decide (view = .committed) ∧
      v.extractLsb' 2 6 = 0#6 ∧ v.extractLsb' 9 23 = 0#23 := by
  cases p <;> cases view <;> decide

theorem extractLsb'_setWidth_high (x : Half) : (x.setWidth 32).extractLsb' 16 16 = 0#16 := by
  apply BitVec.eq_of_toNat_eq
  rw [BitVec.extractLsb'_toNat, BitVec.toNat_setWidth, Nat.shiftRight_eq_div_pow]
  have hx := x.isLt
  simp only [BitVec.toNat_ofNat]
  omega

theorem getLsbD_setWidth_low (x : Half) {n : Nat} (h : n < 16) : (x.setWidth 32).getLsbD n = x.getLsbD n := by
  simp [Nat.lt_trans h (by decide : 16 < 32)]

theorem fieldEncoding (s : State) : FieldEncoding s where
  policyBits d := policyView_fields d.policy d.view
  applyBits := by
    obtain ⟨harmed, hkind, hwindow, h1, h11, h20⟩ := applyOutcome_fields s
    refine ⟨harmed, fun h => ?_, fun h => ?_, fun w h => ?_, fun w h => ?_, fun h => ?_, h1, h11, h20⟩
    · rw [hkind, hwindow, h]
      exact ⟨rfl, rfl⟩
    · rw [hkind, hwindow, h]
      exact ⟨rfl, rfl⟩
    · rw [hkind, hwindow, h]
      exact ⟨rfl, rfl⟩
    · rw [hkind, hwindow, h]
      exact ⟨rfl, rfl⟩
    · rw [hkind, hwindow, h]
      exact ⟨rfl, rfl⟩
  windowCountBits := by
    intro w opened drained hopened hdrained
    exact windowCounts_fields hopened hdrained
  lockBits hgood hlock := goodAndLock_fields hgood hlock
  sealBits hcount := sealState_fields hcount
  windowSetBits w := by
    rw [itemValue, getLsbD_setWidth_low _ w.isLt]
    simp [runStateOf]
  causeBits := by
    have hposition : ∀ p ∈ [(Cause.commitDone, 0), (.commitLate, 1), (.drainDrop, 2), (.overrun, 3), (.aborted, 4),
        (.holdExpired, 5), (.lockGained, 6), (.lockLost, 7), (.holdoverExhausted, 8), (.tableApplied, 9),
        (.tableRefused, 10), (.timingRefused, 11), (.writeRefused, 12), (.stallTimeout, 13), (.downstreamTimeout, 14),
        (.warmReset, 15)], p.2 = causePosition p.1 := by decide
    intro p hp
    rw [hposition p hp, itemValue, itemValue, getLsbD_setWidth_low _ (causePosition_lt p.1),
      getLsbD_setWidth_low _ (causePosition_lt p.1)]
    exact ⟨rfl, rfl⟩
  setsReserved := ⟨extractLsb'_setWidth_high _, extractLsb'_setWidth_high _, extractLsb'_setWidth_high _⟩

/-! ### READ_ITEM (R182, R183) -/

theorem readValues_of_items (s : State) {ns : List Nat} {items : List Item} (h : ns.map itemOfNumber = items.map some) :
    readValues s ns = some (items.flatMap fun it => bytes32 (itemValue s it)) := by
  induction ns generalizing items with
  | nil =>
    cases items with
    | nil => rfl
    | cons it its => simp at h
  | cons n ns ih =>
    cases items with
    | nil => simp at h
    | cons it its =>
      simp only [List.map_cons, List.cons.injEq] at h
      obtain ⟨hit, hrest⟩ := h
      simp only [readValues, hit, ih hrest, List.flatMap_cons]

theorem readValues_of_missing (s : State) {ns : List Nat} (h : ∃ n ∈ ns, itemOfNumber n = none) :
    readValues s ns = none := by
  induction ns with
  | nil => simp at h
  | cons m ms ih =>
    unfold readValues
    split
    · next it bytes hit hbytes =>
      obtain ⟨n, hn, hnone⟩ := h
      rcases List.mem_cons.mp hn with rfl | htail
      · exact absurd (hit.symm.trans hnone) (by simp)
      · exact absurd (hbytes.symm.trans (ih ⟨n, htail, hnone⟩)) (by simp)
    · rfl

theorem readItemReply_of_range {item : Half} {count : Byte} (s : State) (low : 1 ≤ count.toNat) (high : count.toNat ≤ 8) :
    readItemReply item count s =
      match readValues s (itemRun item.toNat count.toNat) with
      | none => [0x02#8]
      | some bytes => 0x00#8 :: bytes := by
  have hrange : ¬(count.toNat = 0 ∨ 8 < count.toNat) := by omega
  unfold readItemReply
  rw [if_neg hrange]
  rfl

theorem exec_readItem_of_awaits {s : State} {item : Half} {count : Byte} (h : Awaits s (.readItem item count)) :
    exec (.readItem item count) s = .next (replied s (some (readItemReply item count s))) :=
  exec_of_awaits h rfl

/-! ### QUERY_WORD (R23, R192) -/

/-- Bit i of a byte mask says whether lane i carries a byte. -/
theorem getLsbD_laneMask (l : Lanes) {i : Nat} (hi : i < 8) : (laneMask l).getLsbD i = (l.getD i none).isSome := by
  induction l generalizing i with
  | nil => simp [laneMask]
  | cons x xs ih =>
    have hstep : laneMask (x :: xs) = (laneMask xs <<< 1) ||| (if x.isSome then 1#8 else 0#8) := rfl
    rw [hstep, BitVec.getLsbD_or, BitVec.getLsbD_shiftLeft]
    cases i with
    | zero => cases x <;> simp
    | succ k =>
      have hk : k < 8 := by omega
      cases x <;> simp [ih hk, hi]

/-- The mask of the word that some lanes stand for, byte by byte. -/
theorem laneAt_of_word (l : Lanes) (a : Word) {i : Nat} (hi : i < 8) :
    laneAt l (wordAddr a + BitVec.ofNat 32 i) = l.getD i none := by
  rw [laneAt, (wordAddr_add (wordAddr_aligned a) hi).2]

theorem openMask_bits (st : Store) (a : Word) {i : Nat} (hi : i < 8) :
    (match lookupOpen st (wordAddr a) with | none => 0x00#8 | some e => laneMask e.lanes).getLsbD i =
      (openByte st (wordAddr a + BitVec.ofNat 32 i)).isSome := by
  rw [openByte, (wordAddr_add (wordAddr_aligned a) hi).1]
  cases lookupOpen st (wordAddr a) with
  | none => simp
  | some e => simp [getLsbD_laneMask _ hi, laneAt_of_word _ _ hi]

theorem sealedMask_bits (st : Store) (a : Word) {i : Nat} (hi : i < 8) :
    (match lookupSealed st (wordAddr a) with | none => 0x00#8 | some e => laneMask e.entry.lanes).getLsbD i =
      (sealedByte st (wordAddr a + BitVec.ofNat 32 i)).isSome := by
  rw [sealedByte, (wordAddr_add (wordAddr_aligned a) hi).1]
  cases lookupSealed st (wordAddr a) with
  | none => simp
  | some e => simp [getLsbD_laneMask _ hi, laneAt_of_word _ _ hi]

theorem exec_queryWord_of_awaits {s : State} {a : Word} (h : Awaits s (.queryWord a)) :
    exec (.queryWord a) s = .next (replied s (some (queryReply s.store a))) :=
  exec_of_awaits h rfl

/-- Settles O52. -/
theorem readingCommands : Obligations.ReadingCommands := by
  refine ⟨⟨fun _ => rfl, fun _ => rfl⟩, fun s => ⟨numberEncoding s, fieldEncoding s,
    fun i bs hbytes h => exec_of_not_awaits hbytes h, fun h => exec_of_awaits h rfl,
    fun item count h => ⟨fun hrange => ?_, fun low high hmissing => ?_, fun items low high hitems => ?_⟩, fun a h => ?_⟩⟩
  · rw [exec_readItem_of_awaits h, readItemReply, if_pos hrange]
    rfl
  · obtain ⟨k, hk, hnone⟩ := hmissing
    have hvalues : readValues s (itemRun item.toNat count.toNat) = none :=
      readValues_of_missing s ⟨item.toNat + k, List.mem_map.mpr ⟨k, List.mem_range.mpr hk, rfl⟩, hnone⟩
    rw [exec_readItem_of_awaits h, readItemReply_of_range s low high, hvalues]
  · have hrun : (itemRun item.toNat count.toNat).map itemOfNumber = items.map some := by
      rw [itemRun, List.map_map]
      exact hitems
    rw [exec_readItem_of_awaits h, readItemReply_of_range s low high, readValues_of_items s hrun]
  · refine ⟨_, _, drainStateCode (lookupSealed s.store (wordAddr a)), ?_,
      fun i => ⟨openMask_bits s.store a i.isLt, sealedMask_bits s.store a i.isLt⟩, fun hnone => ?_, fun e he => ?_⟩
    · rw [exec_queryWord_of_awaits h, queryReply]
      cases s.store.sealedGen <;> rfl
    · rw [hnone]
      rfl
    · rw [he]
      cases hd : e.drain <;> simp [drainStateCode, hd]

end Sys2Proof.Machine

/-! SUPPORT. Writes of items, and the commands that read a record, take a commit and abort the open generation, with the
statements on them. -/

namespace Sys2Proof.Machine

/-! ### Writes (R184) -/

/-- An awaited write answers the code of its write. -/
theorem exec_of_write {i : Instr} {write : State → State × ReplyCode} {s t : State} {code : ReplyCode} (h : Awaits s i)
    (hact : commandAct i s = withCode (write s)) (hwrite : write s = (t, code)) :
    exec i s = .next (replied t (some [replyByte code])) :=
  exec_of_awaits h (by rw [hact, hwrite]; rfl)

theorem exec_writeItem_of_some {s t : State} {item : Half} {v : Word} {it : Item} {code : ReplyCode}
    (h : Awaits s (.writeItem item v)) (hit : itemOfNumber item.toNat = some it) (hwrite : writeExisting it v s = (t, code)) :
    exec (.writeItem item v) s = .next (replied t (some [replyByte code])) :=
  exec_of_write (write := writeItem item v) h rfl (by simp only [writeItem, hit, hwrite])

/-- A write that is stored where its value is in range, and refused where it is not. -/
theorem exec_writeItem_of_range {s t : State} {item : Half} {v : Word} {it : Item} {inRange : Prop} [Decidable inRange]
    (h : Awaits s (.writeItem item v)) (number : item.toNat = itemNumber it)
    (stored : inRange → writeExisting it v s = (t, .ok)) (refused : ¬inRange → writeExisting it v s = (s, .nakRange)) :
    exec (.writeItem item v) s =
      if inRange then .next (replied t (some [0x00#8])) else .next (replied s (some [0x04#8])) := by
  have hit : itemOfNumber item.toNat = some it := by rw [number, itemOfNumber_itemNumber]
  split
  · next hin => exact exec_writeItem_of_some h hit (stored hin)
  · next hout => exact exec_writeItem_of_some h hit (refused hout)

/-- The items that no write reaches (section 10.9). -/
theorem writeExisting_of_readOnly {it : Item} (v : Word) (s : State)
    (h : it ∈ [Item.deviceId, .faultSet, .applyOutcome, .trackerState, .goodAndLock, .lastInterval, .holdoverCount,
        .frameNumber, .phase, .sealState, .openGen, .openCount, .sealedGen, .sealedRemaining, .freeSlots, .causeSet,
        .recordsUnread, .recordsHeld] ∨
      (∃ w f, it = .activeWindow w f) ∨ (∃ w, it = .windowCounts w) ∨ (∃ q, it = .activeTiming q)) :
    writeExisting it v s = (s, .nakRo) := by
  cases it with
  | shadowWindow | shadowTiming | trackEn | trackerParam | gate | holdLimit | lateSeal | stallLimit | dsTimeout
  | retryLimit | drainShare | enableSet => simp at h
  | _ => rfl

theorem writeLateSeal_of_range {v : Nat} (s : State) (h : v ≤ 1) : writeLateSeal v s =
    (s.setSealing { s.sealing with lateSeal := if v = 0 then .immediate else .nextPoint }, .ok) := by
  match v, h with
  | 0, _ => rfl
  | 1, _ => rfl

theorem writeLateSeal_of_not_range {v : Nat} (s : State) (h : ¬v ≤ 1) : writeLateSeal v s = (s, .nakRange) := by
  match v, h with
  | 0, h => exact absurd (by decide) h
  | 1, h => exact absurd (by decide) h
  | _ + 2, _ => rfl

theorem ofNat_itemNumber_of {item : Half} {it : Item} (h : itemOfNumber item.toNat = some it) :
    BitVec.ofNat 16 (itemNumber it) = item := by
  rw [← itemNumber_of_itemOfNumber h, BitVec.ofNat_toNat, BitVec.setWidth_eq]

/-- Two commands with one frame and one action are one command. -/
theorem exec_eq_of_frame {i j : Instr} {s : State} (h : Awaits s i) (frame : commandBytes j = commandBytes i)
    (action : commandAct j s = commandAct i s) : exec i s = exec j s := by
  have hj : Awaits s j := ⟨h.1, frame.trans h.2⟩
  rw [exec_of_awaits (i := i) (t := (commandAct i s).1) (r := (commandAct i s).2) h rfl,
    exec_of_awaits (i := j) (t := (commandAct i s).1) (r := (commandAct i s).2) hj action]

/-- WRITE_ITEM with the number of an item that has a row of its own is that row (R184). -/
theorem exec_writeItem_eq_writeRow {s : State} {item : Half} {v : Word} (h : Awaits s (.writeItem item v)) :
    exec (.writeItem item v) s = exec (writeRow item v) s := by
  have hframe : ∀ {it : Item} {bs : List Byte}, itemOfNumber item.toNat = some it →
      bs = writeItemBytes (BitVec.ofNat 16 (itemNumber it)) v → some bs = commandBytes (.writeItem item v) := by
    rintro it bs hit rfl
    rw [ofNat_itemNumber_of hit]
    rfl
  have hact : ∀ {it : Item}, itemOfNumber item.toNat = some it →
      commandAct (.writeItem item v) s = withCode (writeExisting it v s) := by
    intro it hit
    show withCode (writeItem item v s) = _
    simp only [writeItem, hit]
  unfold writeRow
  split
  · next w f hit => exact exec_eq_of_frame h (hframe hit rfl) (hact hit).symm
  · next q hit => exact exec_eq_of_frame h (hframe hit rfl) (hact hit).symm
  · next p hit => exact exec_eq_of_frame h (hframe hit rfl) (hact hit).symm
  · next hit =>
    have hact' := hact hit
    split
    · next hone =>
      subst hone
      exact exec_eq_of_frame h (hframe hit rfl) hact'.symm
    · split
      · next hzero =>
        subst hzero
        exact exec_eq_of_frame h (hframe hit rfl) hact'.symm
      · rfl
  · next hit => exact exec_eq_of_frame h (hframe hit rfl) (hact hit).symm
  · next hit => exact exec_eq_of_frame h (hframe hit rfl) (hact hit).symm
  · rfl

/-- Settles O53. -/
theorem writeItem_obligation : Obligations.WriteItem := by
  intro s item v h ok nak stored
  refine ⟨fun hnone => ?_, fun it hit hro => exec_writeItem_of_some h hit (writeExisting_of_readOnly v s hro), fun hn => ?_,
    fun hn => ?_, fun hn => ?_, fun hn => ?_, fun hn => ?_, fun hn => ?_, fun hn hbig => ?_,
    exec_writeItem_eq_writeRow h⟩
  · exact exec_of_write (write := writeItem item v) (t := s) (code := .nakItem) h rfl (by simp only [writeItem, hnone])
  · exact exec_writeItem_of_range (it := .holdLimit) h hn (fun hin => if_pos hin) fun hout => if_neg hout
  · exact exec_writeItem_of_range (it := .lateSeal) h hn (fun hin => writeLateSeal_of_range s hin.2)
      fun hout => writeLateSeal_of_not_range s fun hle => hout ⟨Nat.zero_le _, hle⟩
  · exact exec_writeItem_of_range (it := .stallLimit) h hn (fun hin => if_pos hin.2)
      fun hout => if_neg fun hle => hout ⟨Nat.zero_le _, hle⟩
  · exact exec_writeItem_of_range (it := .dsTimeout) h hn (fun hin => if_pos hin) fun hout => if_neg hout
  · exact exec_writeItem_of_range (it := .retryLimit) h hn (fun hin => if_pos hin.2)
      fun hout => if_neg fun hle => hout ⟨Nat.zero_le _, hle⟩
  · exact exec_writeItem_of_range (it := .drainShare) h hn (fun hin => if_pos hin) fun hout => if_neg hout
  · have hone : v ≠ 1#32 := by
      rintro rfl
      exact absurd hbig (by decide)
    have hzero : v ≠ 0#32 := by
      rintro rfl
      exact absurd hbig (by decide)
    have hit : itemOfNumber item.toNat = some .trackEn := by rw [hn]; rfl
    refine exec_writeItem_of_some (t := s) (code := .nakRange) h hit ?_
    show writeTrackEn v s = _
    rw [writeTrackEn, if_neg hone, if_neg hzero]

/-! ### Shadow window items (R29, R30, R190) -/

/-- A write of a shadow window item while no apply is armed. -/
theorem exec_shadowWindowWrite_of_some {s : State} {w : Window} {f : WindowField} {v : Word} {d : Descriptor}
    (h : Awaits s (.shadowWindowWrite w f v)) (idle : s.windows.applyState = .idle)
    (hd : writeDescriptor f v (descriptorOf s.windows.shadow w) = some d) :
    exec (.shadowWindowWrite w f v) s =
      .next (replied (s.setWindows { s.windows with shadow := s.windows.shadow.set w.val d }) (some [0x00#8])) := by
  refine exec_of_write (write := writeShadowWindow w f v) (code := .ok) h rfl ?_
  simp [writeShadowWindow, applyArmed, idle, hd]

theorem exec_shadowWindowWrite_of_none {s : State} {w : Window} {f : WindowField} {v : Word}
    (h : Awaits s (.shadowWindowWrite w f v)) (idle : s.windows.applyState = .idle)
    (hd : writeDescriptor f v (descriptorOf s.windows.shadow w) = none) :
    exec (.shadowWindowWrite w f v) s = .next (replied s (some [0x04#8])) := by
  refine exec_of_write (write := writeShadowWindow w f v) (t := s) (code := .nakRange) h rfl ?_
  simp [writeShadowWindow, applyArmed, idle, hd]

theorem exec_shadowWindowWrite_of_range {s : State} {w : Window} {f : WindowField} {v : Word} {d : Descriptor}
    {inRange : Prop} [Decidable inRange] (h : Awaits s (.shadowWindowWrite w f v)) (idle : s.windows.applyState = .idle)
    (hd : writeDescriptor f v (descriptorOf s.windows.shadow w) = if inRange then some d else none) :
    exec (.shadowWindowWrite w f v) s =
      if inRange then
        .next (replied (s.setWindows { s.windows with shadow := s.windows.shadow.set w.val d }) (some [0x00#8]))
      else .next (replied s (some [0x04#8])) := by
  split at hd
  · next hin => rw [if_pos hin, exec_shadowWindowWrite_of_some h idle hd]
  · next hout => rw [if_neg hout, exec_shadowWindowWrite_of_none h idle hd]

/-- With its reserved bits clear a policy and view value is its policy bits and its view bit. -/
theorem toNat_of_reserved_clear {v : Word} (h : v &&& 0xFFFFFEFC#32 = 0#32) :
    v.toNat = v.toNat % 4 + if v.getLsbD 8 then 256 else 0 := by
  have hclear : ∀ i, i < 32 → (0xFFFFFEFC#32).getLsbD i = true → v.getLsbD i = false := by
    intro i _ hmask
    have hbit : (v &&& 0xFFFFFEFC#32).getLsbD i = false := by rw [h]; simp
    rw [BitVec.getLsbD_and, hmask, Bool.and_true] at hbit
    exact hbit
  have hfield : ∀ start len, (∀ i, i < len → (0xFFFFFEFC#32).getLsbD (start + i) = true ∧ start + i < 32) →
      v.toNat / 2 ^ start % 2 ^ len = 0 := by
    intro start len hmask
    have hzero : v.extractLsb' start len = 0#len := by
      apply BitVec.eq_of_getLsbD_eq
      intro i hi
      obtain ⟨hone, hlt⟩ := hmask i hi
      simp [hclear _ hlt hone]
    have hnat := congrArg BitVec.toNat hzero
    rwa [BitVec.extractLsb'_toNat, Nat.shiftRight_eq_div_pow, BitVec.toNat_ofNat, Nat.zero_mod] at hnat
  have hlow := hfield 2 6 (by decide)
  have hhigh := hfield 9 23 (by decide)
  have hlt := v.isLt
  have hview : v.getLsbD 8 = decide (v.toNat / 2 ^ 8 % 2 = 1) := Nat.testBit_eq_decide_div_mod_eq
  rw [hview]
  simp only [decide_eq_true_eq]
  split <;> omega

/-- The values of the policy and view item, and what each stores. -/
theorem writeDescriptor_policyView (p : Policy) (view : View) (d : Descriptor) :
    writeDescriptor .policyView (BitVec.ofNat 32 (policyCode p + viewCode view)) d =
      some { d with policy := p, view := view } := by
  cases p <;> cases view <;> rfl

theorem policyOfCode_spec {n : Nat} {p : Policy} (h : policyOfCode n = some p) : n = policyCode p := by
  match n, h with
  | 0, h => cases h; rfl
  | 1, h => cases h; rfl
  | 2, h => cases h; rfl

theorem writeDescriptor_policyView_none {v : Word} (d : Descriptor)
    (h : ∀ p view, v.toNat ≠ policyCode p + viewCode view) : writeDescriptor .policyView v d = none := by
  simp only [writeDescriptor]
  split
  · next hclear =>
    rw [Option.map_eq_none_iff]
    cases hp : policyOfCode (v.toNat % 4) with
    | none => rfl
    | some p =>
      have hcode := policyOfCode_spec hp
      have hvalue := toNat_of_reserved_clear hclear
      cases hview : v.getLsbD 8 with
      | true => exact absurd (by rw [hvalue, hcode, hview]; rfl) (h p .committed)
      | false => exact absurd (by rw [hvalue, hcode, hview]; rfl) (h p .latest)
  · rfl

/-! ### Shadow timing items and tracker parameters (R95, R104) -/

theorem exec_shadowTimingWrite_of_range {s : State} {q : TimingField} {v : Word} {t : Timing} {inRange : Prop}
    [Decidable inRange] (h : Awaits s (.shadowTimingWrite q v))
    (ht : writeTiming q v.toNat s.timer.shadow = if inRange then some t else none) :
    exec (.shadowTimingWrite q v) s =
      if inRange then
        .next (replied (s.setTimer { s.timer with shadow := t, refusalMark := false }) (some [0x00#8]))
      else .next (replied s (some [0x04#8])) := by
  split at ht
  · next hin =>
    rw [if_pos hin]
    refine exec_of_write (write := writeShadowTiming q v) (code := .ok) h rfl ?_
    simp only [writeShadowTiming, ht]
  · next hout =>
    rw [if_neg hout]
    refine exec_of_write (write := writeShadowTiming q v) (t := s) (code := .nakRange) h rfl ?_
    simp only [writeShadowTiming, ht]

theorem exec_trackerParameterWrite_of_range {s : State} {p : TrackerParam} {v : Word} {t : Tracker} {inRange : Prop}
    [Decidable inRange] (h : Awaits s (.trackerParameterWrite p v)) (disabled : s.tracker.trackEn = false)
    (ht : writeParam p v.toNat s.tracker = if inRange then some t else none) :
    exec (.trackerParameterWrite p v) s =
      if inRange then .next (replied (s.setTracker t) (some [0x00#8])) else .next (replied s (some [0x04#8])) := by
  split at ht
  · next hin =>
    rw [if_pos hin]
    refine exec_of_write (write := writeTrackerParam p v) (code := .ok) h rfl ?_
    simp [writeTrackerParam, disabled, ht]
  · next hout =>
    rw [if_neg hout]
    refine exec_of_write (write := writeTrackerParam p v) (t := s) (code := .nakRange) h rfl ?_
    simp [writeTrackerParam, disabled, ht]

/-- Settles O54. -/
theorem tableTimingAndParameterWrites : Obligations.TableTimingAndParameterWrites := by
  intro s v ok nak
  refine ⟨fun w f h => ?_, fun q h => ?_, fun p h => ⟨fun henabled => ?_, fun hdisabled => ?_⟩⟩
  · refine ⟨fun armed => ?_, fun idle => ⟨?_, ?_, ?_, ?_, ?_⟩⟩
    · refine exec_of_write (write := writeShadowWindow w f v) (t := s) (code := .nakArmed) h rfl ?_
      simp [writeShadowWindow, (applyArmed_iff s).mpr armed]
    · rintro rfl
      exact exec_shadowWindowWrite_of_range h idle rfl
    · rintro rfl
      exact exec_shadowWindowWrite_of_range h idle rfl
    · rintro rfl
      exact exec_shadowWindowWrite_of_range h idle rfl
    · rintro p view rfl hvalue
      refine exec_shadowWindowWrite_of_some h idle ?_
      rw [← writeDescriptor_policyView p view, ← hvalue, BitVec.ofNat_toNat, BitVec.setWidth_eq]
      rfl
    · rintro rfl hvalue
      exact exec_shadowWindowWrite_of_none h idle (writeDescriptor_policyView_none _ hvalue)
  · refine ⟨?_, ?_, ?_⟩
    · rintro rfl
      exact exec_shadowTimingWrite_of_range h rfl
    · rintro rfl
      exact exec_shadowTimingWrite_of_range h rfl
    · rintro rfl
      exact exec_shadowTimingWrite_of_range h rfl
  · refine exec_of_write (write := writeTrackerParam p v) (t := s) (code := .nakLocked) h rfl ?_
    simp [writeTrackerParam, henabled]
  · refine ⟨?_, ?_, ?_, ?_, ?_⟩
    · rintro rfl
      exact exec_trackerParameterWrite_of_range h hdisabled rfl
    · rintro rfl
      exact exec_trackerParameterWrite_of_range h hdisabled rfl
    · rintro rfl
      exact exec_trackerParameterWrite_of_range h hdisabled rfl
    · rintro rfl
      exact exec_trackerParameterWrite_of_range h hdisabled rfl
    · rintro rfl
      exact exec_trackerParameterWrite_of_range h hdisabled rfl

end Sys2Proof.Machine

/-! SUPPORT. TRACK_EN, GATE, READ_RECORD, COMMIT_NOW and ABORT_OPEN, with the statements on them. -/

namespace Sys2Proof.Machine

/-! ### TRACK_EN and GATE (R104 to R106, R118) -/

theorem gateOfCode_gateCode (g : Gate) : gateOfCode (gateCode g) = some g := by
  cases g <;> rfl

theorem gateOfCode_of_big {n : Nat} (h : 2 < n) : gateOfCode n = none := by
  match n, h with
  | 0, h => exact absurd h (by decide)
  | 1, h => exact absurd h (by decide)
  | 2, h => exact absurd h (by decide)
  | _ + 3, _ => rfl

theorem changeTracker_of_opening {s : State} {t : Tracker} (closed : gateOpen s = false)
    (opened : gateOpen (s.setTracker t) = true) : changeTracker t [] s = permissionReturn (s.setTracker t) := by
  rw [changeTracker_eq]
  exact if_pos ⟨closed, opened⟩

theorem changeTracker_of_noOpening {s : State} {t : Tracker}
    (h : gateOpen s = true ∨ gateOpen (s.setTracker t) = false) : changeTracker t [] s = s.setTracker t := by
  rw [changeTracker_eq]
  refine if_neg ?_
  rintro ⟨hclosed, hopened⟩
  rcases h with h | h
  · exact absurd (h.symm.trans hclosed) (by simp)
  · exact absurd (h.symm.trans hopened) (by simp)

/-- In FREE and in ACQUIRE the gate is open under GATE ANY only. -/
theorem gateOpenIn_free (g : Gate) : gateOpenIn g .free = (g == .any) ∧ gateOpenIn g .acquire = (g == .any) := by
  cases g <;> exact ⟨rfl, rfl⟩

/-- A gate that is open in FREE is open in every state. -/
theorem gateOpenIn_of_free {g : Gate} (h : gateOpenIn g .free = true) (t : TrackerState) : gateOpenIn g t = true := by
  rw [(gateOpenIn_free g).1, beq_iff_eq] at h
  rw [h]
  rfl

theorem gateOpen_raiseAll (cs : List Cause) (s : State) : gateOpen (raiseAll cs s) = gateOpen s := by
  simp [gateOpen]

/-- A change to FREE opens no gate. -/
theorem changeTracker_of_free {s : State} {t : Tracker} (cs : List Cause) (free : t.state = .free)
    (gate : t.gate = s.tracker.gate) : changeTracker t cs s = raiseAll cs (s.setTracker t) := by
  unfold changeTracker
  dsimp only
  refine if_neg ?_
  rw [gateOpen_raiseAll]
  simp only [Bool.and_eq_true, Bool.not_eq_true', not_and, gateOpen, State.setTracker_tracker, free, gate]
  intro hclosed hopened
  exact absurd (gateOpenIn_of_free hopened s.tracker.state) (by simp [hclosed])

/-- FREE to ACQUIRE opens no gate. -/
theorem gateOpen_of_acquire {s : State} {t : Tracker} (free : s.tracker.state = .free) (acquire : t.state = .acquire)
    (gate : t.gate = s.tracker.gate) : gateOpen s = true ∨ gateOpen (s.setTracker t) = false := by
  have hsame : gateOpen (s.setTracker t) = gateOpen s := by
    simp only [gateOpen, State.setTracker_tracker, acquire, gate, free, gateOpenIn_free]
  rw [hsame]
  exact Bool.eq_false_or_eq_true _

/-- Settles O55. -/
theorem trackerEnableAndGate : Obligations.TrackerEnableAndGate := by
  intro s ok nak
  refine ⟨fun h => ?_, fun h => ?_, fun v h => ⟨fun hbig => ?_, fun g hg => ?_⟩⟩
  · intro fits
    refine ⟨fun henabled => ?_, fun hdisabled hnot => ?_, fun hdisabled hfree hfits => ?_⟩
    · refine exec_of_write (write := enableTracker) (t := s) (code := .ok) h rfl ?_
      simp [enableTracker, henabled]
    · refine exec_of_write (write := enableTracker) (t := s) (code := .nakRange) h rfl ?_
      simp only [enableTracker, hdisabled]
      exact if_neg hnot
    · refine exec_of_write (write := enableTracker) (code := .ok) h rfl ?_
      simp only [enableTracker, hdisabled]
      refine (if_pos hfits).trans ?_
      rw [changeTracker_of_noOpening]
      exact gateOpen_of_acquire hfree rfl rfl
  · intro off raised
    have hraised : changeTracker
        { s.tracker with
          trackEn := false, state := .free, goodCount := 0, lockCount := 0, holdoverCount := 0, reference := none }
        (lockLostFrom s.tracker.state) s = raised := by
      refine (changeTracker_of_free _ (by rfl) (by rfl)).trans ?_
      rw [lockLostFrom_eq]
      split
      · next hlocked => exact (if_pos hlocked).symm
      · next hlocked => exact (if_neg hlocked).symm
    have hclock : raised.timer = s.timer := by
      rw [← hraised]
      simp
    refine ⟨fun hdisabled => ?_, fun henabled hbefore => ?_, fun henabled hpast => ?_⟩
    · refine exec_of_write (write := disableTracker) (t := s) (code := .ok) h rfl ?_
      simp [disableTracker, hdisabled]
    · refine exec_of_write (write := disableTracker) (t := raised) (code := .ok) h rfl ?_
      rw [disableTracker, if_pos henabled, hraised, boundaryIfPast, hclock, if_neg (Nat.not_le_of_lt hbefore)]
    · refine exec_of_write (write := disableTracker) (t := Machine.takeBoundary raised) (code := .ok) h rfl ?_
      rw [disableTracker, if_pos henabled, hraised, boundaryIfPast, hclock, if_pos hpast]
  · refine exec_of_write (write := Machine.writeGate v) (t := s) (code := .nakRange) h rfl ?_
    simp only [writeGate, gateOfCode_of_big hbig]
  · intro stored
    have hwrite : writeGate v s = (changeTracker { s.tracker with gate := g } [] s, .ok) := by
      simp only [writeGate, hg, gateOfCode_gateCode]
    refine ⟨fun hclosed hopened => ?_, fun hno => ?_⟩
    · rw [changeTracker_of_opening hclosed hopened] at hwrite
      exact exec_of_write (write := writeGate v) h rfl hwrite
    · rw [changeTracker_of_noOpening hno] at hwrite
      exact exec_of_write (write := writeGate v) h rfl hwrite

/-! ### READ_RECORD (R150, R191) -/

theorem readOldest_of_allRead {ring : List RingEntry} (h : ∀ e ∈ ring, e.isRead = true) : readOldest ring = none := by
  induction ring with
  | nil => rfl
  | cons e rest ih => simp [readOldest, h e (by simp), ih fun x hx => h x (List.mem_cons_of_mem e hx)]

/-- The first record behind the read ones is marked read and returned. -/
theorem readOldest_of_split {front back : List RingEntry} {e : RingEntry} (hfront : ∀ x ∈ front, x.isRead = true)
    (he : e.isRead = false) :
    readOldest (front ++ e :: back) = some (e.record, front ++ { e with isRead := true } :: back) := by
  induction front with
  | nil => simp [readOldest, he]
  | cons x xs ih =>
    simp [readOldest, hfront x (by simp), ih fun y hy => hfront y (List.mem_cons_of_mem x hy)]

theorem unreadCount_mark (front back : List RingEntry) {e : RingEntry} (he : e.isRead = false) :
    unreadCount (front ++ { e with isRead := true } :: back) + 1 = unreadCount (front ++ e :: back) := by
  simp [unreadCount, he]
  omega

/-- The record's flags byte: the late flag, the presence of the seal fields, and zeros. -/
theorem recordFlags_bits (r : CommitRecord) : (recordFlags r).getLsbD 0 = r.late ∧
    (recordFlags r).getLsbD 1 = r.sealFields.isSome ∧ (recordFlags r).extractLsb' 2 6 = 0#6 := by
  unfold recordFlags
  cases r.late <;> cases r.sealFields.isSome <;> decide

theorem recordLayout (r : CommitRecord) : RecordLayout r (recordBytes r) where
  length := by
    unfold recordBytes
    cases r.sealFields <;> rfl
  number := rfl
  outcome := by
    refine ⟨fun h => ?_, fun h => ?_, fun h => ?_, fun h => ?_⟩ <;>
    · simp only [recordBytes, h]
      rfl
  flags := ⟨recordFlags r, rfl, recordFlags_bits r⟩
  counts := ⟨rfl, rfl, rfl⟩
  windowSet := rfl
  stamps := ⟨rfl, rfl, rfl, rfl⟩
  deferral := rfl
  sealAbsent h := by
    simp only [recordBytes, h]
    exact ⟨rfl, rfl, rfl⟩
  sealCause f h := by
    simp only [recordBytes, h]
    refine ⟨fun hcause => ?_, fun hcause => ?_, fun hcause => ?_, fun hcause => ?_⟩ <;>
    · rw [hcause]
      rfl
  sealTracker f h := by
    simp only [recordBytes, h]
    refine ⟨fun hstate => ?_, fun hstate => ?_, fun hstate => ?_, fun hstate => ?_, fun hstate => ?_⟩ <;>
    · rw [hstate]
      rfl
  sealStamp f h := by
    simp only [recordBytes, h]
    exact ⟨rfl, rfl, rfl⟩

/-- Settles O57. -/
theorem readRecordReturnsTheOldestUnread : Obligations.ReadRecordReturnsTheOldestUnread := by
  refine ⟨fun s h => ⟨fun hall => ?_, fun front e back hring hfront he => ⟨?_, ?_⟩⟩, ⟨fun _ => rfl, fun _ => rfl⟩,
    recordLayout⟩
  · refine exec_of_awaits h ?_
    show readRecord s = _
    simp only [readRecord, readOldest_of_allRead hall]
    rfl
  · refine exec_of_awaits h ?_
    show readRecord s = _
    simp only [readRecord, hring, readOldest_of_split hfront he]
    rfl
  · rw [hring, unreadCount_mark front back he]

/-! ### COMMIT_NOW and ABORT_OPEN (R130, R131, R135) -/

/-- A slot-free report offers the stalled write again. -/
theorem abortOpen_of_body {s : State} {b : OpenBody} (hb : s.store.openBody = some b) (open_ : b.entries ≠ []) :
    abortOpen s =
      (reportFreedSlots (clearOwed (raiseCause .aborted (discardOpen .aborted s))),
        some (0x00#8 :: bytes16 (BitVec.ofNat 16 b.entries.length))) := by
  have hentries : openEmpty s.store = false := by
    rw [openEmpty_eq_false_iff, openEntries_of_body hb]
    exact open_
  simp only [abortOpen, hentries, openCount_of_body hb]
  rfl

/-- Settles O59. -/
theorem commitNowAndAbortOpen : Obligations.CommitNowAndAbortOpen := by
  intro s
  refine ⟨fun h => ⟨fun held => ?_, fun free hpending => ?_, fun free hclear => ?_⟩,
    fun h => ⟨fun hempty => ?_, fun b hb hopen => ?_⟩⟩
  · refine exec_of_awaits h ?_
    show commitNow s = _
    simp [commitNow, held, reply, codeReply, replyByte]
  · refine exec_of_awaits h ?_
    show commitNow s = _
    simp [commitNow, free, hpending, reply, codeReply, replyByte]
  · have hact : commitNow s = (returnCommitNow (s.setSealing { s.sealing with commitNow := true }), some [0x00#8]) := by
      simp [commitNow, free, hclear]
    have hexec := exec_of_awaits h (t := returnCommitNow (s.setSealing { s.sealing with commitNow := true })) hact
    obtain ⟨-, -, -, -, -, -, hstays, htakes⟩ :=
      permissionReturnTakesWhatWaits (s.setSealing { s.sealing with commitNow := true })
    refine ⟨fun hno => ?_, fun hpermission hempty => ?_, fun hpermission hopen => ?_⟩
    · rw [hexec, hstays (.inr hno)]
    · rw [hexec, (htakes rfl hpermission).2 hempty]
      have hback : { s.sealing with commitNow := false } = s.sealing := by rw [← hclear]
      show Host.Outcome.next (replied (s.setSealing { s.sealing with commitNow := false }) _) = _
      rw [hback]
      rfl
    · rw [hexec, (htakes rfl hpermission).1 hopen]
      rfl
  · refine exec_of_awaits h ?_
    show abortOpen s = _
    simp only [abortOpen, (openEmpty_iff _).mpr hempty]
    rfl
  · intro discarded reply
    have hdiscarded : clearOwed (raiseCause .aborted (discardOpen .aborted s)) = discarded := by
      rw [discardOpen_of_body hb]
      rfl
    have hexec := exec_of_awaits h (abortOpen_of_body hb hopen)
    rw [hdiscarded] at hexec
    refine ⟨fun hstall => ?_, fun due e hstall head => ?_⟩
    · rw [hexec, reportFreedSlots_of_no_stall (s := discarded) hstall]
    · rw [hexec, reportFreedSlots_of_stall (s := discarded) hstall head]

end Sys2Proof.Machine
